-- ==== Sys2Proof/Word.lean ====
section
/-! DEFINITION. The bit-vector types the spec uses (00_scope.md R10): `u16` words, 8-bit bytes and
4-bit fields. -/

namespace Sys2Proof

/-- A 16-bit value: a command word, a raw code, a result (R8: command word width, raw code width). -/
abbrev Word := BitVec 16

/-- An 8-bit value: a chip register, a register address on the bus, a data byte (R8: bus data width). -/
abbrev Byte := BitVec 8

/-- A 4-bit field: `OP`, `A`, `LASTOP` (R81, R30). -/
abbrev Nibble := BitVec 4

end Sys2Proof
end

