-- ==== Sys2Proof/Config.lean ====
section
/-! DEFINITION. The implementation parameters (00_scope.md R8, 10_state.md R49) as a record, and the
two durations the spec leaves OPEN. The values this hardware is built with are in Machine/Params.lean. -/

namespace Sys2Proof

/-- The failure policy of the two multi-step operations, `P_SEQ_POLICY` (40_engine.md R104). -/
inductive SeqPolicy where
  | fireAndForget
  | abortAndReport
  deriving DecidableEq, Repr

/-- The parameters of R8, fixed when the block is built (R49). -/
structure Config where
  /-- `P_DEV_ADDR`, the handle of every exchange (R64, R211). -/
  devAddr : BitVec 7
  /-- `P_T_GAP_US`, the delay after an access (R107). -/
  gapUs : Nat
  /-- `P_T_INIT_US`, the delay after INIT's write (R132). -/
  initUs : Nat
  /-- `P_INIT_CTRL`, the value INIT writes (R133). -/
  initCtrl : Byte
  /-- `P_SEQ_POLICY` (R104). -/
  seqPolicy : SeqPolicy
  /-- `P_CODE_FS`, the full-scale code of the scaling stage (R170, R171). -/
  codeFs : BitVec 16
  /-- `P_VFS_MV`, the voltage full scale in mV (R170). -/
  vfsMv : BitVec 16
  /-- `P_TFS_CK`, the temperature full scale in 0.01 K (R171). -/
  tfsCk : BitVec 16
  /-- `P_TOFF_CK`, 0 degrees Celsius in 0.01 K (R171). -/
  toffCk : BitVec 16
  deriving DecidableEq, Repr

/-- The OPEN duration `P_T_GAP_US` (R8, U10): no value is known. -/
opaque Config.openGapUs : Nat

/-- By how much the OPEN duration `P_T_INIT_US` exceeds `P_T_GAP_US`; R135 says it is not less. -/
opaque Config.openSettleExtraUs : Nat

end Sys2Proof
end

