-- ==== Sys2Proof/Syntax.lean ====
section
/-! DEFINITION. The ten commands (30_encoding.md R82), one constructor for each row of
opcode_table.json, and the three fields of a command word (R81). -/

namespace Sys2Proof

/-- A command with its operands (R82, R83). `a` names one of the sixteen chip registers, `d` is the
byte to write. The operand widths are those of the fields, so every term is encodable. -/
inductive Instr where
  /-- RDREG: read one chip register (R120). -/
  | rdreg (a : Nibble)
  /-- WRREG: write one chip register (R121). -/
  | wrreg (a : Nibble) (d : Byte)
  /-- READID: check the chip's identification pattern (R130). -/
  | readid
  /-- INIT: write the initial control value and let the chip settle (R132). -/
  | init
  /-- RSTQ: reset the accumulated-charge register safely (R136). -/
  | rstq
  /-- DECQ: decode accumulated charge (R165). -/
  | decq
  /-- DECV: decode battery voltage, raw (R166). -/
  | decv
  /-- DECT: decode temperature, raw (R167). -/
  | dect
  /-- DECVS: decode battery voltage and scale to millivolts (R168). -/
  | decvs
  /-- DECTS: decode temperature and scale to 0.01 degrees Celsius (R169). -/
  | dects
  deriving DecidableEq, Repr

/-- The fields `OP`, `A`, `D` of a command word (R81); also what `CUR` holds (10_state.md R32). -/
structure CmdFields where
  op : Nibble
  a : Nibble
  d : Byte
  deriving DecidableEq, Repr

end Sys2Proof
end

