-- ==== Sys2Proof/WellFormed.lean ====
section
/-! DEFINITION. What is checked of a command's fields (30_encoding.md R84) and of a configuration
(00_scope.md R8, 42_device_control.md R135). A term of `Instr` needs no check: its operands have the
widths of the fields they are written into (Laws/PerInstr.lean shows that its fields pass). -/

namespace Sys2Proof

/-- The fields of a legal command: a known opcode, and zero in every field the command does not use
(R84, R85). -/
def CmdFields.wf (f : CmdFields) : Bool :=
  decide (1 ≤ f.op.toNat) && decide (f.op.toNat ≤ 10) &&
  (f.op == 1 || f.op == 2 || f.a == 0) &&
  (f.op == 2 || f.d == 0)

/-- The constraints on the parameters: the settle delay is not shorter than the gap (R135), the divisor
of the scaling stage is positive (R173), and the temperature result fits a signed 16-bit value (R8). The
remaining constraint of R8, on the 32-bit product, holds of any 16-bit parameters. -/
def Config.wf (c : Config) : Bool :=
  decide (c.gapUs ≤ c.initUs) && decide (0 < c.codeFs.toNat) &&
  decide (c.tfsCk.toNat ≤ 32767 + c.toffCk.toNat) && decide (c.toffCk.toNat ≤ 32768)

end Sys2Proof
end

