-- ==== Sys2Proof/Decode.lean ====
section
/-! DEFINITION. Decoding a command word (30_encoding.md R81 to R85, R90), total on every word, and the
encoder. -/

namespace Sys2Proof

/-- The three fields of a word (R81). -/
def wordFields (w : Word) : CmdFields :=
  { op := w.extractLsb' 12 4, a := w.extractLsb' 8 4, d := w.extractLsb' 0 8 }

/-- The word with the given fields (R81): `OP` in bits 15:12, `A` in 11:8, `D` in 7:0. -/
def fieldsWord (f : CmdFields) : Word :=
  (f.op.setWidth 16 <<< 12) ||| (f.a.setWidth 16 <<< 8) ||| f.d.setWidth 16

/-- `legal(w)` as R84 writes it. -/
def legal (w : Word) : Bool :=
  (w.extractLsb' 12 4 == 0x1#4 && w.extractLsb' 0 8 == 0#8) ||
  (w.extractLsb' 12 4 == 0x2#4) ||
  (decide (3 ≤ (w.extractLsb' 12 4).toNat ∧ (w.extractLsb' 12 4).toNat ≤ 0xA) &&
    w.extractLsb' 0 12 == 0#12)

/-- What a word decodes to: one of the ten commands with its operands, or "illegal" with its `OP`
field (R90). -/
inductive Decoded where
  | legal (i : Instr)
  | illegal (op : Nibble)
  deriving DecidableEq, Repr

/-- The command an opcode names (R82), `none` for the reserved opcodes 0x0 and 0xB to 0xF. -/
def opcodeInstr (f : CmdFields) : Option Instr :=
  match f.op.toNat with
  | 0x1 => some (.rdreg f.a)
  | 0x2 => some (.wrreg f.a f.d)
  | 0x3 => some .readid
  | 0x4 => some .init
  | 0x5 => some .rstq
  | 0x6 => some .decq
  | 0x7 => some .decv
  | 0x8 => some .dect
  | 0x9 => some .decvs
  | 0xA => some .dects
  | _ => none

/-- The decode function (R90). It reads nothing but the word. -/
def decode (w : Word) : Decoded :=
  if legal w then
    match opcodeInstr (wordFields w) with
    | some i => .legal i
    | none => .illegal (wordFields w).op
  else .illegal (wordFields w).op

/-- The fields of a command's word: its opcode (R82), its operands, zero in the fields it does not use
(R84). -/
def Instr.fields : Instr → CmdFields
  | .rdreg a => { op := 0x1, a := a, d := 0 }
  | .wrreg a d => { op := 0x2, a := a, d := d }
  | .readid => { op := 0x3, a := 0, d := 0 }
  | .init => { op := 0x4, a := 0, d := 0 }
  | .rstq => { op := 0x5, a := 0, d := 0 }
  | .decq => { op := 0x6, a := 0, d := 0 }
  | .decv => { op := 0x7, a := 0, d := 0 }
  | .dect => { op := 0x8, a := 0, d := 0 }
  | .decvs => { op := 0x9, a := 0, d := 0 }
  | .dects => { op := 0xA, a := 0, d := 0 }

/-- The one word of a command (R80, R81). -/
def encode (i : Instr) : Word := fieldsWord i.fields

/-- The instruction the decoder reads from a table word of `nbits` bits. The port takes a whole 16-bit
word (R80, R100), so the bits are the word's own and those above `nbits` are zero. -/
def decodeTableWord (nbits w : Nat) : Option Instr :=
  if nbits ≤ 16 ∧ w < 2 ^ nbits then
    match decode (BitVec.ofNat 16 w) with
    | .legal i => some i
    | .illegal _ => none
  else none

end Sys2Proof
end

