-- ==== Sys2Proof/Machine/Params.lean ====
section
/-! DEFINITION. The values this hardware is built with (00_scope.md R8) and the fixed constants of the
chip's register map (R9; 10_state.md R40, R46, R47). The numbers are the spec's, which marks them general
knowledge (GK2 to GK14) except the masks of R47: PRESUMED, entry 10. -/

namespace Sys2Proof

/-- The table of R8. The two OPEN durations are opaque, the second not less than the first (R135). -/
def Config.built : Config where
  devAddr := 0x64
  gapUs := Config.openGapUs
  initUs := Config.openGapUs + Config.openSettleExtraUs
  initCtrl := 0xD2
  seqPolicy := .fireAndForget
  codeFs := 65535
  vfsMv := 6000
  tfsCk := 60000
  toffCk := 27315

namespace Machine

/-- `A_STATUS` (R40). -/
def aStatus : Byte := 0x00
/-- `A_CTRL` (R40). -/
def aCtrl : Byte := 0x01
/-- `A_QMSB` (R40). -/
def aQmsb : Byte := 0x02
/-- `A_QLSB` (R40). -/
def aQlsb : Byte := 0x03
/-- `A_VMSB` (R40). -/
def aVmsb : Byte := 0x08
/-- `A_VLSB` (R40). -/
def aVlsb : Byte := 0x09
/-- `A_TMSB` (R40). -/
def aTmsb : Byte := 0x0C
/-- `A_TLSB` (R40). -/
def aTlsb : Byte := 0x0D
/-- `SHDN_MASK` (R46). -/
def shdnMask : Byte := 0x01
/-- `ID_MASK` (R47). -/
def idMask : Byte := 0xC0
/-- `ID_PATTERN` (R47). -/
def idPattern : Byte := 0x00

end Machine
end Sys2Proof
end

