-- ==== Sys2Proof/Machine/State.lean ====
section
/-! DEFINITION. Everything the spec gives the block (10_state.md R20 to R39, R49), the environment's
future as plain data (00_scope.md R7), and the bus trace (20_memory.md R75). -/

namespace Sys2Proof.Machine

/-- One answer of the bus responder (20_memory.md R64): the success flag, and the byte in its receive
buffer, which a write ignores. -/
structure Answer where
  ok : Bool
  rx : Byte
  deriving DecidableEq, Repr

/-- One event of the bus trace (R75). -/
inductive BusEvent where
  /-- `Exchange(tx, rxLen)` addressed to `handle`, with the answer it received; `rx` is present exactly
  when `rxLen` is 1 (R64). -/
  | exchange (handle : BitVec 7) (tx : List Byte) (rxLen : Nat) (ok : Bool) (rx : Option Byte)
  /-- `Delay(us)` (R66). -/
  | delay (us : Nat)
  deriving DecidableEq, Repr

/-- The state of the block, its configuration, its environment's future and the trace. -/
structure State where
  /-- 16-bit result register (R21). -/
  OUT : Word
  /-- Raw input of the last value-producing command (R22). -/
  RAW : Word
  /-- The control value the last RSTQ read (R23). -/
  SAVED : Byte
  /-- The status register (R24); its fields are read and written in Machine/Flags.lean. -/
  STATUS : Byte
  /-- `OP` of the last completed command word (R30). -/
  LASTOP : Nibble
  /-- The sequencer's step index (R31). -/
  STEP : Nat
  /-- The latched fields of the command being executed (R32). -/
  CUR : CmdFields
  /-- MSB latch of the decode pipeline (R33). -/
  M8 : Byte
  /-- The byte of the most recent read (R34). -/
  B8 : Byte
  /-- Saved-control latch of RSTQ (R35). -/
  S8 : Byte
  /-- No access of the current command has failed (R36). -/
  OKACC : Bool
  /-- Number of the first failed access, or 0 (R36). -/
  FAIL : BitVec 3
  /-- The parameters the block was built with (R20 c, R49). -/
  config : Config
  /-- Command words the host will issue, oldest first; the head is the word on the port (R100). -/
  words : List Word
  /-- The responder's answers to the exchanges to come, in order (R64). -/
  answers : List Answer
  /-- How many delays the delay agent will still complete (R66). -/
  delays : Nat
  /-- Block resets to come (R230): the head is the number of steps before the next one. -/
  resets : List Nat
  /-- The bus trace so far, oldest event first (R75). -/
  trace : List BusEvent
  deriving DecidableEq, Repr

/-- States in which the block has no micro-operation to run. The spec says the block is never in one
(40_engine.md R113), so neither is reached from reset; where one is raised the model stops: safe
(entry 6). -/
inductive Fault where
  /-- Raised by `step` when `BUSY` is 1 and `CUR` holds no legal command. Safe. -/
  | noCurrentCommand
  /-- Raised by a command's meaning when `BUSY` is 1 and `STEP` is past the end of its micro-program.
  Safe. -/
  | stepPastProgram
  deriving DecidableEq, Repr

/-- Reasons to give an instruction no meaning. -/
inductive Refusal where
  /-- Raised by `exec` for an instruction with no meaning yet; no arm does. Safe. -/
  | notModelled (mnemonic : String)
  deriving DecidableEq, Repr

/-- The state right after a block reset (10_state.md R38, 70_reset_and_hazards.md R230) of a block with
the built parameters, in an environment that has nothing to say yet (entry 4). -/
def State.reset : State where
  OUT := 0
  RAW := 0
  SAVED := 0
  STATUS := 0
  LASTOP := 0
  STEP := 0
  CUR := { op := 0, a := 0, d := 0 }
  M8 := 0
  B8 := 0
  S8 := 0
  OKACC := true
  FAIL := 0
  config := Config.built
  words := []
  answers := []
  delays := 0
  resets := []
  trace := []

end Sys2Proof.Machine
end

