-- ==== Sys2Proof/Machine/Flags.lean ====
section
/-! DEFINITION. The fields of `STATUS` (10_state.md R24 to R29), the outcome latches `OKACC` and `FAIL`
(R36), and the status a completion writes (R37). -/

namespace Sys2Proof.Machine

/-- `STATUS.OK`, bit 0 (R25). -/
def statusOk (v : Byte) : Bool := v.getLsbD 0
/-- `STATUS.PRESENT`, bit 1 (R26). -/
def statusPresent (v : Byte) : Bool := v.getLsbD 1
/-- `STATUS.ILLEGAL`, bit 2 (R27). -/
def statusIllegal (v : Byte) : Bool := v.getLsbD 2
/-- The reserved bit 3 (R24, R39). -/
def statusReserved (v : Byte) : Bool := v.getLsbD 3
/-- `STATUS.ERRSTEP`, bits 6:4 (R28). -/
def statusErrstep (v : Byte) : BitVec 3 := v.extractLsb' 4 3
/-- `STATUS.BUSY`, bit 7 (R29). -/
def statusBusy (v : Byte) : Bool := v.getLsbD 7

/-- `v` with bit `n` replaced, the other bits kept. -/
def writeBit (v : Byte) (n : Nat) (b : Bool) : Byte :=
  if b then v ||| (1#8 <<< n) else v &&& ~~~(1#8 <<< n)

/-- `STATUS.BUSY <- b`. -/
def writeBusy (v : Byte) (b : Bool) : Byte := writeBit v 7 b

/-- `STATUS.ERRSTEP <- e`. -/
def writeErrstep (v : Byte) (e : BitVec 3) : Byte :=
  (v &&& 0x8F#8) ||| (e.setWidth 8 <<< 4)

/-- The four fields a completion or a refusal writes; `BUSY` and the reserved bit are kept (R37, R201). -/
def writeReport (v : Byte) (ok present illegal : Bool) (err : BitVec 3) : Byte :=
  writeErrstep (writeBit (writeBit (writeBit v 0 ok) 1 present) 2 illegal) err

/-- A command is executing (R29). -/
def State.busy (s : State) : Bool := statusBusy s.STATUS

/-- The port's ready output, `NOT STATUS.BUSY` (40_engine.md R100). -/
def State.ready (s : State) : Bool := !s.busy

/-- `NoteFail(k)`: `OKACC <- 0; if FAIL == 0 then FAIL <- k` (R36, 40_engine.md R106). -/
def State.noteFail (s : State) (k : BitVec 3) : State :=
  { s with OKACC := false, FAIL := if s.FAIL = 0 then k else s.FAIL }

/-- The report of a command whose failures are reported (60_exceptions.md R202). -/
def State.reportAccesses (s : State) (present : Bool) : State :=
  { s with STATUS := writeReport s.STATUS s.OKACC present false s.FAIL }

/-- The report of INIT and RSTQ, which depends on `P_SEQ_POLICY` (R134, R137, R138). -/
def State.reportByPolicy (s : State) : State :=
  match s.config.seqPolicy with
  | .fireAndForget => { s with STATUS := writeReport s.STATUS true false false 0 }
  | .abortAndReport => s.reportAccesses false

/-- `Aborting()` (40_engine.md R108, R112): the policy is ABORT_AND_REPORT, the command is INIT or RSTQ
and an access of it has failed. -/
def State.aborting (s : State) : Bool :=
  s.config.seqPolicy == .abortAndReport && (s.CUR.op == 0x4 || s.CUR.op == 0x5) && !s.OKACC

end Sys2Proof.Machine
end

