-- ==== Sys2Proof/Machine/MicroOp.lean ====
section
/-! DEFINITION. The three kinds of micro-operation and their operands (40_engine.md R103). -/

namespace Sys2Proof.Machine

/-- The latch beside `B8` that a read fills (R103): `M8`, `S8` or none. -/
inductive Latch where
  | none
  | m8
  | s8
  deriving DecidableEq, Repr

/-- The value expression of a write (R103). -/
inductive WriteExpr where
  /-- `CUR.D` -/
  | curD
  /-- `P_INIT_CTRL` -/
  | initCtrl
  /-- the constant 0x00 -/
  | zero
  /-- `S8 | SHDN_MASK` -/
  | s8Shutdown
  /-- `S8` -/
  | s8
  deriving DecidableEq, Repr

/-- A micro-operation (R103). `k` is the access number within the command. -/
inductive MicroOp where
  /-- `RD(k, a, L)` -/
  | rd (k : BitVec 3) (a : Byte) (l : Latch)
  /-- `WR(k, a, e)` -/
  | wr (k : BitVec 3) (a : Byte) (e : WriteExpr)
  /-- `DLY(us)` -/
  | dly (us : Nat)
  deriving DecidableEq, Repr

/-- Is the micro-operation a delay (R108)? -/
def MicroOp.isDelay : MicroOp → Bool
  | .dly _ => true
  | .rd _ _ _ => false
  | .wr _ _ _ => false

/-- The number of an access within its command; a delay has none (R103). -/
def MicroOp.number : MicroOp → Option (BitVec 3)
  | .rd k _ _ => some k
  | .wr k _ _ => some k
  | .dly _ => none

/-- The chip register of an access; a delay has none (R103). -/
def MicroOp.addr : MicroOp → Option Byte
  | .rd _ a _ => some a
  | .wr _ a _ => some a
  | .dly _ => none

end Sys2Proof.Machine
end

