-- ==== Sys2Proof/Machine/Operands.lean ====
section
/-! DEFINITION. The operand forms: the register address of a command word (30_encoding.md R83), the
values a write sends and the latches a read fills (40_engine.md R103, R105, R106), zero extension of a
byte (00_scope.md R10), the assembly of a raw code (43_decode_pipeline.md R163) and the identification
test (42_device_control.md R131). -/

namespace Sys2Proof.Machine

/-- The address RDREG and WRREG send: `zext_8(A)` (R83). -/
def regAddr (a : Nibble) : Byte := a.setWidth 8

/-- `zext_16(b)` (R10). -/
def zext16 (b : Byte) : Word := b.setWidth 16

/-- The value of a write's expression, evaluated when the write is issued (R103). -/
def WriteExpr.eval (e : WriteExpr) (s : State) : Byte :=
  match e with
  | .curD => s.CUR.d
  | .initCtrl => s.config.initCtrl
  | .zero => 0
  | .s8Shutdown => s.S8 ||| shdnMask
  | .s8 => s.S8

/-- `B8 <- b; if L != none: L <- b` (R105). -/
def State.latchByte (s : State) (l : Latch) (b : Byte) : State :=
  match l with
  | .none => { s with B8 := b }
  | .m8 => { s with B8 := b, M8 := b }
  | .s8 => { s with B8 := b, S8 := b }

/-- `code = (zext_16(m) << 8) | zext_16(l)` (R163). -/
def assembleCode (m l : Byte) : Word := (zext16 m <<< 8) ||| zext16 l

/-- `IdMatch(s) = ((s & ID_MASK) == ID_PATTERN)` (R131). -/
def idMatch (b : Byte) : Bool := (b &&& idMask) == idPattern

end Sys2Proof.Machine
end

