-- ==== Sys2Proof/Machine/Ops.lean ====
section
/-! DEFINITION. The operations every command shares: the bus primitives (20_memory.md R64 to R67), a
micro-operation (40_engine.md R105 to R107), acceptance (R101), one engine step and completion (R109,
R112), the refusal of an illegal word (60_exceptions.md R201, the block's only reaction outside a
command: it has no traps, R205) and block reset (70_reset_and_hazards.md R230). -/

namespace Sys2Proof.Machine

/-- The outcome type of a step. -/
abbrev Result := Host.Outcome State Fault Refusal

/-- `Exchange(tx, rxLen)` (R64): the responder's next answer, and the state with the event in the trace.
`none` while the responder has not answered (R112, R214). -/
def exchange (tx : List Byte) (rxLen : Nat) (s : State) : Option (Answer × State) :=
  match s.answers with
  | [] => none
  | ans :: rest =>
    let rx := if rxLen = 1 then some ans.rx else none
    some (ans, { s with
      answers := rest
      trace := s.trace ++ [.exchange s.config.devAddr tx rxLen ans.ok rx] })

/-- `MemRead(a, 1)` (R65): the success flag and the byte delivered, which is 0x00 when the exchange
failed (R67). -/
def memRead (a : Byte) (s : State) : Option (Bool × Byte × State) :=
  match exchange [a] 1 s with
  | none => none
  | some (ans, s') => some (ans.ok, if ans.ok then ans.rx else 0x00, s')

/-- `MemWrite(a, 1, v)` (R65). -/
def memWrite (a v : Byte) (s : State) : Option (Bool × State) :=
  match exchange [a, v] 0 s with
  | none => none
  | some (ans, s') => some (ans.ok, s')

/-- `Delay(us)` (R66): `none` while the delay agent has not completed it. -/
def delay (us : Nat) (s : State) : Option State :=
  match s.delays with
  | 0 => none
  | n + 1 => some { s with delays := n, trace := s.trace ++ [.delay us] }

/-- `if not ok: NoteFail(k)` (R105, R106). -/
def noteOutcome (ok : Bool) (k : BitVec 3) (s : State) : State :=
  if ok then s else s.noteFail k

/-- Run one micro-operation (R105, R106, R107). `none` while the environment has not answered. -/
def runMicroOp (m : MicroOp) (s : State) : Option State :=
  match m with
  | .rd k a l =>
    match memRead a s with
    | none => none
    | some (ok, b, s') => some (noteOutcome ok k (s'.latchByte l b))
  | .wr k a e =>
    match memWrite a (e.eval s) s with
    | none => none
    | some (ok, s') => some (noteOutcome ok k s')
  | .dly us => delay us s

/-- Acceptance of a legal word with the fields `f` (R101). -/
def State.accept (s : State) (f : CmdFields) : State :=
  { s with CUR := f, STEP := 0, OKACC := true, FAIL := 0, STATUS := writeBusy s.STATUS true }

/-- What every completion does beside the command's own commit (R109). -/
def State.finish (s : State) : State :=
  { s with LASTOP := s.CUR.op, STEP := 0, STATUS := writeBusy s.STATUS false }

/-- `STEP <- STEP + 1` (R112). -/
def State.advance (s : State) : State := { s with STEP := s.STEP + 1 }

/-- `EngineStep()` (R112), with the micro-program and the commit of the current command. The block waits
unchanged while the environment has not answered: it has no other step (R112, R214; entry 3). -/
def engineStep (prog : List MicroOp) (commit : State → State) (s : State) : Result :=
  match prog[s.STEP]? with
  | none => .fault .stepPastProgram
  | some m =>
    match runMicroOp m s with
    | none => .next s
    | some ran =>
      let t := ran.advance
      if (m.isDelay && t.aborting) || t.STEP == prog.length then .next (commit t).finish
      else .next t

/-- The block's step with one command at hand, from the command's fields, micro-program and commit. When
idle the block accepts it (R101); when it is the command in `CUR` the engine runs its next
micro-operation (R112); when another command is executing the word waits on the port and nothing
happens (R100; entry 1). -/
def runCommand (f : CmdFields) (prog : List MicroOp) (commit : State → State) (s : State) : Result :=
  if s.busy then
    if s.CUR = f then engineStep prog commit s else .next s
  else .next (s.accept f)

/-- The refusal of an illegal word with the opcode field `op` (R201, R102). -/
def State.refuseIllegal (s : State) (op : Nibble) : State :=
  { s with STATUS := writeReport s.STATUS false false true 0, LASTOP := op }

/-- Block reset (R230): every piece of block state to the value of 10_state.md R38. The configuration is
kept (R231); the environment and the trace are not the block's, and no event is added (R230). -/
def State.blockReset (s : State) : State :=
  { State.reset with
    config := s.config, words := s.words, answers := s.answers, delays := s.delays
    resets := s.resets, trace := s.trace }

end Sys2Proof.Machine
end

