-- ==== Sys2Proof/Machine/DecodePipeline.lean ====
section
/-! DEFINITION. The decode and scaling pipeline (43_decode_pipeline.md R160 to R175). -/

namespace Sys2Proof.Machine

/-- The micro-program of every decode command over its register pair (R162). -/
def progPair (c : Config) (msb lsb : Byte) : List MicroOp :=
  [.rd 1 msb .m8, .dly c.gapUs, .rd 2 lsb .none, .dly c.gapUs]

/-- `code` at completion (R163). -/
def State.code (s : State) : Word := assembleCode s.M8 s.B8

/-- The commit of every decode command from its output (R160 stages 4 and 5, R164). -/
def State.putCode (s : State) (out : Word) : State :=
  ({ s with OUT := out, RAW := s.code } : State).reportAccesses false

/-- `floor(zext_32(code) * fs / P_CODE_FS)` in a 32-bit unsigned intermediate (R170, R171). -/
def scale32 (code fs codeFs : BitVec 16) : BitVec 32 :=
  code.setWidth 32 * fs.setWidth 32 / codeFs.setWidth 32

/-- `scaleV(code)` in millivolts (R170). -/
def scaleV (c : Config) (code : Word) : Word := (scale32 code c.vfsMv c.codeFs).setWidth 16

/-- `scaleT(code)` in 0.01 degrees Celsius, a signed value (R171). The offset is subtracted after the
division. -/
def scaleT (c : Config) (code : Word) : Int :=
  ((scale32 code c.tfsCk c.codeFs).toNat : Int) - (c.toffCk.toNat : Int)

/-- The 16-bit two's-complement bits of `t`, `t mod 65536` (R169). -/
def s16Bits (t : Int) : Word := BitVec.ofInt 16 t

/-- `prog(DECQ)` (R161, R162). -/
def progDecq (c : Config) : List MicroOp := progPair c aQmsb aQlsb
/-- `prog(DECV)` (R161, R162). -/
def progDecv (c : Config) : List MicroOp := progPair c aVmsb aVlsb
/-- `prog(DECT)` (R161, R162). -/
def progDect (c : Config) : List MicroOp := progPair c aTmsb aTlsb
/-- `prog(DECVS)` (R161, R162). -/
def progDecvs (c : Config) : List MicroOp := progPair c aVmsb aVlsb
/-- `prog(DECTS)` (R161, R162). -/
def progDects (c : Config) : List MicroOp := progPair c aTmsb aTlsb

/-- DECQ's commit (R165): the code is the result. -/
def commitDecq (s : State) : State := s.putCode s.code
/-- DECV's commit (R166). -/
def commitDecv (s : State) : State := s.putCode s.code
/-- DECT's commit (R167): the same bits, read as signed by the host. -/
def commitDect (s : State) : State := s.putCode s.code
/-- DECVS's commit (R168). -/
def commitDecvs (s : State) : State := s.putCode (scaleV s.config s.code)
/-- DECTS's commit (R169). -/
def commitDects (s : State) : State := s.putCode (s16Bits (scaleT s.config s.code))

/-- DECQ, decode accumulated charge (R165). -/
def execDecq (s : State) : Result := runCommand Instr.decq.fields (progDecq s.config) commitDecq s

/-- DECV, decode battery voltage, raw (R166). -/
def execDecv (s : State) : Result := runCommand Instr.decv.fields (progDecv s.config) commitDecv s

/-- DECT, decode temperature, raw (R167). -/
def execDect (s : State) : Result := runCommand Instr.dect.fields (progDect s.config) commitDect s

/-- DECVS, decode battery voltage and scale to millivolts (R168). -/
def execDecvs (s : State) : Result := runCommand Instr.decvs.fields (progDecvs s.config) commitDecvs s

/-- DECTS, decode temperature and scale to 0.01 degrees Celsius (R169). -/
def execDects (s : State) : Result := runCommand Instr.dects.fields (progDects s.config) commitDects s

end Sys2Proof.Machine
end

