-- ==== Sys2Proof/Machine/RegisterAccess.lean ====
section
/-! DEFINITION. The register access commands (41_register_access.md R120 to R122). -/

namespace Sys2Proof.Machine

/-- `OUT <- zext_16(B8); RAW <- zext_16(B8)` (R120, R130). -/
def State.putByte (s : State) : State := { s with OUT := zext16 s.B8, RAW := zext16 s.B8 }

/-- `prog(RDREG a)` (R120). -/
def progRdreg (c : Config) (a : Nibble) : List MicroOp :=
  [.rd 1 (regAddr a) .none, .dly c.gapUs]

/-- RDREG's commit (R120). -/
def commitRdreg (s : State) : State := (s.putByte).reportAccesses false

/-- RDREG, read one chip register (R120). -/
def execRdreg (a : Nibble) (s : State) : Result :=
  runCommand (Instr.rdreg a).fields (progRdreg s.config a) commitRdreg s

/-- `prog(WRREG a, d)` (R121). The byte sent is `CUR.D`. -/
def progWrreg (c : Config) (a : Nibble) : List MicroOp :=
  [.wr 1 (regAddr a) .curD, .dly c.gapUs]

/-- WRREG's commit (R121). -/
def commitWrreg (s : State) : State := s.reportAccesses false

/-- WRREG, write one chip register (R121). -/
def execWrreg (a : Nibble) (d : Byte) (s : State) : Result :=
  runCommand (Instr.wrreg a d).fields (progWrreg s.config a) commitWrreg s

end Sys2Proof.Machine
end

