-- ==== Sys2Proof/Machine/DeviceControl.lean ====
section
/-! DEFINITION. The device control commands (42_device_control.md R130 to R143). -/

namespace Sys2Proof.Machine

/-- `prog(READID)` (R130). -/
def progReadid (c : Config) : List MicroOp := [.rd 1 aStatus .none, .dly c.gapUs]

/-- READID's commit (R130): `PRESENT <- OKACC AND IdMatch(B8)`. -/
def commitReadid (s : State) : State := (s.putByte).reportAccesses (s.OKACC && idMatch s.B8)

/-- READID, check the chip's identification pattern (R130, R131). -/
def execReadid (s : State) : Result :=
  runCommand Instr.readid.fields (progReadid s.config) commitReadid s

/-- `prog(INIT)` (R132): the settle delay takes the place of the gap. -/
def progInit (c : Config) : List MicroOp := [.wr 1 aCtrl .initCtrl, .dly c.initUs]

/-- INIT's commit (R134). -/
def commitInit (s : State) : State := s.reportByPolicy

/-- INIT, write the initial control value and let the chip settle (R132 to R135). -/
def execInit (s : State) : Result :=
  runCommand Instr.init.fields (progInit s.config) commitInit s

/-- `prog(RSTQ)` (R136). -/
def progRstq (c : Config) : List MicroOp :=
  [.rd 1 aCtrl .s8, .dly c.gapUs,
   .wr 2 aCtrl .s8Shutdown, .dly c.gapUs,
   .wr 3 aQmsb .zero, .dly c.gapUs,
   .wr 4 aQlsb .zero, .dly c.gapUs,
   .wr 5 aCtrl .s8, .dly c.gapUs]

/-- RSTQ's commit (R137, R138): `SAVED <- S8` and the report by policy. -/
def commitRstq (s : State) : State := ({ s with SAVED := s.S8 } : State).reportByPolicy

/-- RSTQ, reset the accumulated-charge register safely (R136 to R143). -/
def execRstq (s : State) : Result :=
  runCommand Instr.rstq.fields (progRstq s.config) commitRstq s

end Sys2Proof.Machine
end

