-- ==== Sys2Proof/Machine/Dispatch.lean ====
section
/-! DEFINITION. One arm for each command (30_encoding.md R82). -/

namespace Sys2Proof.Machine

def exec (i : Instr) (s : State) : Host.Outcome State Fault Refusal :=
  match i with
  | .rdreg a => Sys2Proof.Machine.execRdreg a s
  | .wrreg a d => Sys2Proof.Machine.execWrreg a d s
  | .readid => Sys2Proof.Machine.execReadid s
  | .init => Sys2Proof.Machine.execInit s
  | .rstq => Sys2Proof.Machine.execRstq s
  | .decq => Sys2Proof.Machine.execDecq s
  | .decv => Sys2Proof.Machine.execDecv s
  | .dect => Sys2Proof.Machine.execDect s
  | .decvs => Sys2Proof.Machine.execDecvs s
  | .dects => Sys2Proof.Machine.execDects s

end Sys2Proof.Machine
end

