-- ==== Sys2Proof/Machine/Step.lean ====
section
/-! DEFINITION. One step of the block in its environment (40_engine.md R100 to R102, R112;
70_reset_and_hazards.md R230, R232). -/

namespace Sys2Proof.Machine

/-- A step in which no reset is due. While busy, the engine runs the next micro-operation of the command
in `CUR` (R112) and takes no word (R100). While idle, the word on the port is taken and accepted (R101)
or refused (R102); with no word there is nothing to do. -/
def stepBlock (s : State) : Host.Outcome State Fault Refusal :=
  if s.busy then
    match decode (fieldsWord s.CUR) with
    | .legal i => exec i s
    | .illegal _ => .fault .noCurrentCommand
  else
    match s.words with
    | [] => .next s
    | w :: rest =>
      match decode w with
      | .legal i => exec i { s with words := rest }
      | .illegal op => .next (({ s with words := rest } : State).refuseIllegal op)

/-- One step of the machine. A due reset is the whole step, also inside a command (R230, R232); otherwise
the count to the next reset falls by one and the block takes its step. -/
def step (s : State) : Host.Outcome State Fault Refusal :=
  match s.resets with
  | [] => stepBlock s
  | 0 :: rest => .next ({ s with resets := rest } : State).blockReset
  | (n + 1) :: rest => stepBlock { s with resets := n :: rest }

/-- `s` with the `nbits` low bits of `w` as the word on the port, the block idle and no reset due, so that
the next step takes that word (entry 4). -/
def State.withFetchWord (s : State) (nbits w : Nat) : State :=
  { s with
    words := BitVec.ofNat 16 (w % 2 ^ nbits) :: s.words
    STATUS := writeBusy s.STATUS false
    resets := s.resets.dropWhile (· == 0) }

end Sys2Proof.Machine
end

