-- ==== Sys2Proof/Machine/Chip.lean ====
section
/-! DEFINITION. The gauge chip as the block's rules name it (10_state.md R40 to R50): its register table,
the fields of its control and status bytes, and, as a premise a claim may use (00_scope.md R7, R13), a
chip on which every successful write lands. No part of the chip is state of the block (20_memory.md
R74; entry 11). The numbers are the spec's general knowledge: PRESUMED, entry 10. -/

namespace Sys2Proof.Machine

/-- May the host write the register (the "chip access" column of R40)? The block does not enforce it. -/
inductive ChipAccess where
  | readOnly
  | readWrite
  deriving DecidableEq, Repr

/-- One row of the register table (R40), with the name the assembler accepts (30_encoding.md R88). -/
structure ChipReg where
  addr : Nibble
  name : String
  access : ChipAccess
  deriving DecidableEq, Repr

/-- The register table (R40, R88), in address order. -/
def chipRegs : List ChipReg :=
  [⟨0x0, "STATUS", .readOnly⟩, ⟨0x1, "CTRL", .readWrite⟩,
   ⟨0x2, "QMSB", .readWrite⟩, ⟨0x3, "QLSB", .readWrite⟩,
   ⟨0x4, "QTHH_MSB", .readWrite⟩, ⟨0x5, "QTHH_LSB", .readWrite⟩,
   ⟨0x6, "QTHL_MSB", .readWrite⟩, ⟨0x7, "QTHL_LSB", .readWrite⟩] ++
  [⟨0x8, "VMSB", .readOnly⟩, ⟨0x9, "VLSB", .readOnly⟩,
   ⟨0xA, "VTHH", .readWrite⟩, ⟨0xB, "VTHL", .readWrite⟩,
   ⟨0xC, "TMSB", .readOnly⟩, ⟨0xD, "TLSB", .readOnly⟩,
   ⟨0xE, "TTHH", .readWrite⟩, ⟨0xF, "TTHL", .readWrite⟩]

/-- The operating modes (R43). -/
inductive AdcMode where
  | automatic
  | manualVoltage
  | manualTemperature
  | sleep
  deriving DecidableEq, Repr

/-- `ADC_MODE`, control bits 7:6 (R42, R43). -/
def controlAdcMode (ctrl : Byte) : AdcMode :=
  match (ctrl.extractLsb' 6 2).toNat with
  | 3 => .automatic
  | 2 => .manualVoltage
  | 1 => .manualTemperature
  | _ => .sleep

/-- The prescaler that `PRESCALER`, control bits 5:3, selects: `M = 2^k` (R44). -/
def controlPrescaler (ctrl : Byte) : Nat := 2 ^ (ctrl.extractLsb' 3 3).toNat

/-- The settings of the ALCC pin (R45). -/
inductive AlccMode where
  | alert
  | chargeComplete
  | disabled
  | notAllowed
  deriving DecidableEq, Repr

/-- `ALCC`, control bits 2:1 (R45). -/
def controlAlcc (ctrl : Byte) : AlccMode :=
  match (ctrl.extractLsb' 1 2).toNat with
  | 2 => .alert
  | 1 => .chargeComplete
  | 0 => .disabled
  | _ => .notAllowed

/-- `SHUTDOWN`, the bit `SHDN_MASK` selects (R46): the chip is shut down and its accumulator writable;
otherwise it is measuring (R50). -/
def controlShutDown (ctrl : Byte) : Bool := (ctrl &&& shdnMask) != 0

/-- The chip's control byte at power-on (R48). No rule of the block depends on it. -/
def controlPowerOn : Byte := 0x3C

/-- The sixteen registers of a chip, by address (R40). -/
abbrev ChipMem := Vector Byte 16

/-- The register at a bus address; 0 outside the sixteen, where the block never goes (20_memory.md
R61). -/
def chipRead (m : ChipMem) (a : Byte) : Byte := (m.toList[a.toNat]?).getD 0

/-- A register set at a bus address; nothing outside the sixteen. -/
def chipWrite (m : ChipMem) (a v : Byte) : ChipMem :=
  if h : a.toNat < 16 then m.set a.toNat v else m

/-- A write lands exactly when its exchange succeeded; nothing else changes a register. This is the
premise "every access succeeds and lands and no one else writes" of 42_device_control.md R140, not a
claim about the chip (U2, U3, U7, U8). -/
def chipAfterEvent (m : ChipMem) (e : BusEvent) : ChipMem :=
  match e with
  | .exchange _ [a, v] 0 true _ => chipWrite m a v
  | .exchange _ _ _ _ _ => m
  | .delay _ => m

/-- The registers after a trace on such a chip. -/
def chipAfter (m : ChipMem) (trace : List BusEvent) : ChipMem := trace.foldl chipAfterEvent m

end Sys2Proof.Machine
end

