-- ==== Sys2Proof/Machine/Assembler.lean ====
section
/-! DEFINITION. The assembler syntax, register names and pseudo-commands (30_encoding.md R87 to R89). What
R87 leaves open (white space, an empty line) is entry 12. -/

namespace Sys2Proof.Machine

/-- White space between the parts of a line (entry 12). -/
def isBlank (c : Char) : Bool := c == ' ' || c == '\t'

/-- A text without the white space around it. -/
def trimBlanks (cs : List Char) : List Char :=
  ((cs.dropWhile isBlank).reverse.dropWhile isBlank).reverse

/-- A line without its comment, which starts at `;` (R87). -/
def stripComment (cs : List Char) : List Char := cs.takeWhile (· != ';')

/-- The value of a digit. -/
def digitVal (c : Char) : Option Nat :=
  if '0' ≤ c ∧ c ≤ '9' then some (c.toNat - '0'.toNat)
  else if 'a' ≤ c ∧ c ≤ 'f' then some (c.toNat - 'a'.toNat + 10)
  else if 'A' ≤ c ∧ c ≤ 'F' then some (c.toNat - 'A'.toNat + 10)
  else none

/-- The number written by some digits of a base, after the digits already read. -/
def parseDigits (base : Nat) : Nat → List Char → Option Nat
  | n, [] => some n
  | n, c :: cs =>
    match digitVal c with
    | some d => if d < base then parseDigits base (n * base + d) cs else none
    | none => none

/-- A number: decimal, `0x` hexadecimal or `0b` binary (R87). -/
def parseNumber (cs : List Char) : Option Nat :=
  match cs with
  | [] => none
  | '0' :: 'x' :: d :: ds => parseDigits 16 0 (d :: ds)
  | '0' :: 'b' :: d :: ds => parseDigits 2 0 (d :: ds)
  | c :: ds => parseDigits 10 0 (c :: ds)

/-- `<reg>`: a number 0..15 or a register name (R87, R88). -/
def parseReg (cs : List Char) : Option Nibble :=
  match chipRegs.find? (fun r => r.name.toList == cs) with
  | some r => some r.addr
  | none =>
    match parseNumber cs with
    | some n => if n < 16 then some (BitVec.ofNat 4 n) else none
    | none => none

/-- `<byte>`: a number 0..255 (R87). -/
def parseByte (cs : List Char) : Option Byte :=
  match parseNumber cs with
  | some n => if n < 256 then some (BitVec.ofNat 8 n) else none
  | none => none

/-- The parts of a text between commas. -/
def splitCommas : List Char → List (List Char)
  | [] => [[]]
  | c :: cs =>
    if c == ',' then [] :: splitCommas cs
    else
      match splitCommas cs with
      | [] => [[c]]
      | p :: ps => (c :: p) :: ps

/-- A mnemonic and its operands: the ten commands (R87) and the three pseudo-commands, each one word
(R89). -/
def assembleParts (mnemonic : String) (operands : List (List Char)) : Option Instr :=
  match mnemonic, operands with
  | "RDREG", [r] => (parseReg r).map .rdreg
  | "WRREG", [r, b] =>
    match parseReg r, parseByte b with
    | some a, some d => some (.wrreg a d)
    | _, _ => none
  | "READID", [] => some .readid
  | "INIT", [] => some .init
  | "RSTQ", [] => some .rstq
  | "DECQ", [] => some .decq
  | "DECV", [] => some .decv
  | "DECT", [] => some .dect
  | "DECVS", [] => some .decvs
  | "DECTS", [] => some .dects
  | "RDSTAT", [] => some (.rdreg 0x0)
  | "RDCTRL", [] => some (.rdreg 0x1)
  | "WRCTRL", [b] => (parseByte b).map (.wrreg 0x1)
  | _, _ => none

/-- What one line of text holds. -/
inductive AsmLine where
  /-- Nothing but white space or a comment. -/
  | blank
  /-- One command. -/
  | command (i : Instr)
  /-- No command of R87 or R89. -/
  | error
  deriving DecidableEq, Repr

/-- One line of text (R87): a mnemonic, its operands separated by a comma, an optional comment. -/
def assembleLine (line : List Char) : AsmLine :=
  let text := trimBlanks (stripComment line)
  let rest := trimBlanks (text.dropWhile (fun c => !isBlank c))
  let operands := if rest.isEmpty then [] else (splitCommas rest).map trimBlanks
  if text.isEmpty then .blank
  else
    match assembleParts (String.ofList (text.takeWhile (fun c => !isBlank c))) operands with
    | some i => .command i
    | none => .error

/-- The command words of a text, one line at a time; `none` when a line is in error. -/
def assembleText : List (List Char) → Option (List Word)
  | [] => some []
  | line :: lines =>
    match assembleLine line, assembleText lines with
    | .blank, some ws => some ws
    | .command i, some ws => some (encode i :: ws)
    | .error, _ => none
    | _, none => none

end Sys2Proof.Machine
end

