-- ==== Sys2Proof/Machine/HostPort.lean ====
section
/-! DEFINITION. What the host sees and does (40_engine.md R100, R110; 10_state.md R20 a, R21, R38;
70_reset_and_hazards.md R242, R243). -/

namespace Sys2Proof.Machine

/-- The registers a host reads (R20 a). -/
structure HostView where
  OUT : Word
  RAW : Word
  SAVED : Byte
  STATUS : Byte
  LASTOP : Nibble
  deriving DecidableEq, Repr

/-- Reading them, possible at any time and without effect on the block (R100). -/
def State.hostView (s : State) : HostView :=
  { OUT := s.OUT, RAW := s.RAW, SAVED := s.SAVED, STATUS := s.STATUS, LASTOP := s.LASTOP }

/-- The host presents a word behind those it has not yet issued (R100). -/
def State.present (s : State) (w : Word) : State := { s with words := s.words ++ [w] }

/-- The port's valid signal: a word is presented (R100). -/
def State.valid (s : State) : Bool := !s.words.isEmpty

/-- A word is accepted in a step in which valid and ready are both true (R100). -/
def State.takesWord (s : State) : Bool := s.valid && s.ready

/-- How the host reads `OUT` (R21, R242). -/
inductive OutReading where
  | u16 (n : Nat)
  | s16 (z : Int)
  deriving DecidableEq, Repr

/-- The reading of `OUT` that `LASTOP` names (R21): signed after DECT and DECTS, unsigned after the other
value commands. `none` after a command that writes no value or a refused word, when `OUT` holds an older
result (R242). -/
def HostView.outReading (v : HostView) : Option OutReading :=
  if statusIllegal v.STATUS then none
  else
    match v.LASTOP.toNat with
    | 0x1 | 0x3 | 0x6 | 0x7 | 0x9 => some (.u16 v.OUT.toNat)
    | 0x8 | 0xA => some (.s16 v.OUT.toInt)
    | _ => none

/-- `OUT` carries a result: a value command has completed and none of its accesses failed (R243). -/
def HostView.measured (v : HostView) : Bool := v.outReading.isSome && statusOk v.STATUS

/-- The reset marker "no command completed": `LASTOP` = 0x0 with `ILLEGAL` = 0 (R38). -/
def HostView.noCommandYet (v : HostView) : Bool := v.LASTOP == 0 && !statusIllegal v.STATUS

/-- What the `STATUS` of a completed READID says (R26, R130). -/
inductive Presence where
  | couldNotCommunicate
  | wrongIdentity
  | present
  deriving DecidableEq, Repr

/-- READID's report: `OK` = 0 is a failed read, `OK` = 1 with `PRESENT` = 0 another identity (R26). -/
def HostView.presence (v : HostView) : Presence :=
  if !statusOk v.STATUS then .couldNotCommunicate
  else if statusPresent v.STATUS then .present
  else .wrongIdentity

end Sys2Proof.Machine
end

