-- ==== Sys2Proof/Machine/Programs.lean ====
section
/-! DEFINITION. The micro-program and the commit of each command under one name (40_engine.md R103,
R109), and the state names of the reset sequencer (42_device_control.md R139). -/

namespace Sys2Proof.Machine

/-- `prog(CUR)` (R103). -/
def prog (c : Config) : Instr → List MicroOp
  | .rdreg a => progRdreg c a
  | .wrreg a _ => progWrreg c a
  | .readid => progReadid c
  | .init => progInit c
  | .rstq => progRstq c
  | .decq => progDecq c
  | .decv => progDecv c
  | .dect => progDect c
  | .decvs => progDecvs c
  | .dects => progDects c

/-- "Commit the command's results" (R109). -/
def commit : Instr → State → State
  | .rdreg _ => commitRdreg
  | .wrreg _ _ => commitWrreg
  | .readid => commitReadid
  | .init => commitInit
  | .rstq => commitRstq
  | .decq => commitDecq
  | .decv => commitDecv
  | .dect => commitDect
  | .decvs => commitDecvs
  | .dects => commitDects

/-- The names of `STEP` while RSTQ runs (R139). -/
inductive RstqPhase where
  | readCtrl
  | gap1
  | shutdown
  | gap2
  | zeroMsb
  | gap3
  | zeroLsb
  | gap4
  | restore
  | gap5
  deriving DecidableEq, Repr

/-- The phase of a running RSTQ; `none` when no RSTQ is running (R139). -/
def State.rstqPhase (s : State) : Option RstqPhase :=
  if s.busy && s.CUR.op == 0x5 then
    match s.STEP with
    | 0 => some .readCtrl
    | 1 => some .gap1
    | 2 => some .shutdown
    | 3 => some .gap2
    | 4 => some .zeroMsb
    | 5 => some .gap3
    | 6 => some .zeroLsb
    | 7 => some .gap4
    | 8 => some .restore
    | 9 => some .gap5
    | _ => none
  else none

/-- The next state column of R139: `none` is DONE. -/
def RstqPhase.next : RstqPhase → Option RstqPhase
  | .readCtrl => some .gap1
  | .gap1 => some .shutdown
  | .shutdown => some .gap2
  | .gap2 => some .zeroMsb
  | .zeroMsb => some .gap3
  | .gap3 => some .zeroLsb
  | .zeroLsb => some .gap4
  | .gap4 => some .restore
  | .restore => some .gap5
  | .gap5 => none

/-- The phases that are delays, from which an aborting RSTQ goes to DONE (R139). -/
def RstqPhase.isGap : RstqPhase → Bool
  | .gap1 | .gap2 | .gap3 | .gap4 | .gap5 => true
  | .readCtrl | .shutdown | .zeroMsb | .zeroLsb | .restore => false

end Sys2Proof.Machine
end

