-- ==== Sys2Proof/Safety.lean ====
section
/-! DEFINITION. The terms claims use: idle and running states, the invariant of the block, the shape and
spacing of the bus trace, and runs of several steps. -/

namespace Sys2Proof.Machine

/-- No command is executing and the port is ready (10_state.md R29). -/
abbrev State.Idle (s : State) : Prop := s.busy = false

/-- Command `i` is executing (10_state.md R29, R32). -/
abbrev State.Running (s : State) (i : Instr) : Prop := s.busy = true ∧ s.CUR = i.fields

/-- `s` waits for the micro-operation `m` of command `i` (40_engine.md R112). -/
abbrev State.AtOp (s : State) (i : Instr) (m : MicroOp) : Prop :=
  s.Running i ∧ (prog s.config i)[s.STEP]? = some m

/-- Every field of the status byte `v`, whose reserved bit is that of `old` (10_state.md R24). -/
structure StatusIs (v old : Byte) (ok present illegal : Bool) (err : BitVec 3) (busy : Bool) : Prop where
  ok : statusOk v = ok
  present : statusPresent v = present
  illegal : statusIllegal v = illegal
  reserved : statusReserved v = statusReserved old
  errstep : statusErrstep v = err
  busy : statusBusy v = busy

/-- No block reset is due in the next step. -/
abbrev State.NoResetDue (s : State) : Prop := s.resets.head? ≠ some 0

/-- No block reset is due in the next step, and `later` holds the counts to those to come after it: the
count to the next one falls by one in a step (entry 2). -/
abbrev State.ResetsLater (s : State) (later : List Nat) : Prop :=
  s.resets = [] ∧ later = [] ∨ ∃ n rest, s.resets = (n + 1) :: rest ∧ later = n :: rest

/-- Several steps of the machine. -/
abbrev run (n : Nat) (s : State) : Host.Outcome State Fault Refusal := Host.Core.run Sys2Proof.core n s

/-- The next word on the port is `w`, and no reset will come. -/
structure State.Issues (s : State) (w : Word) (rest : List Word) : Prop where
  idle : s.Idle
  words : s.words = w :: rest
  resets : s.resets = []

/-- The block's invariant: the reserved status bit reads 0 (R24, R39); `ERRSTEP` and `FAIL` stay in 0..5
(R28, R36); success goes with no reported failure and no refusal, and `PRESENT` only with a successful
READID (R26); `OKACC` and `FAIL` agree (R36); `STEP` is 0 while idle (R31) and points into the
micro-program of a legal current command while busy (40_engine.md R113). -/
structure State.Inv (s : State) : Prop where
  reserved : statusReserved s.STATUS = false
  errstep : (statusErrstep s.STATUS).toNat ≤ 5
  success : statusOk s.STATUS = true →
    statusErrstep s.STATUS = 0 ∧ statusIllegal s.STATUS = false
  present : statusPresent s.STATUS = true → statusOk s.STATUS = true ∧ s.LASTOP = 0x3
  fail : s.FAIL.toNat ≤ 5
  okacc : s.OKACC = true ↔ s.FAIL = 0
  idle : s.busy = false → s.STEP = 0
  running : s.busy = true → ∃ i : Instr, s.CUR = i.fields ∧ s.STEP < (prog s.config i).length

/-- Is the event an exchange? -/
def BusEvent.isAccess : BusEvent → Bool
  | .exchange _ _ _ _ _ => true
  | .delay _ => false

/-- The shape of every event the block makes (20_memory.md R60 to R62, R64, R66): an exchange is addressed
to `P_DEV_ADDR` and is either a one-byte read or a one-byte write of a register 0x00..0x0F; a delay has
one of the two configured durations. -/
def BusEvent.Shaped (c : Config) : BusEvent → Prop
  | .exchange handle tx rxLen _ rx =>
    handle = c.devAddr ∧
    ((∃ a : Byte, tx = [a] ∧ rxLen = 1 ∧ rx.isSome = true ∧ a.toNat < 16) ∨
     (∃ a v : Byte, tx = [a, v] ∧ rxLen = 0 ∧ rx = none ∧ a.toNat < 16))
  | .delay us => us = c.gapUs ∨ us = c.initUs

/-- May `next` follow `e` at once? After an exchange only a delay of at least `gap` may (40_engine.md
R107). -/
def mayFollow (gap : Nat) (e : BusEvent) (next : Option BusEvent) : Bool :=
  match e, next with
  | .delay _, _ => true
  | .exchange _ _ _ _ _, none => true
  | .exchange _ _ _ _ _, some (.delay us) => decide (gap ≤ us)
  | .exchange _ _ _ _ _, some (.exchange _ _ _ _ _) => false

/-- Every exchange of a trace but a last one is followed at once by a delay of at least `gap`
(40_engine.md R107). -/
def spaced (gap : Nat) : List BusEvent → Bool
  | [] => true
  | e :: rest => mayFollow gap e rest.head? && spaced gap rest

/-- The last event of a trace is an exchange: its delay is still to come. -/
def endsInAccess (trace : List BusEvent) : Bool :=
  match trace.getLast? with
  | some e => e.isAccess
  | none => false

/-- The trace is spaced, and its last event is an exchange only while the block is busy with the delay
that follows it, at an odd `STEP` (40_engine.md R103, R107). -/
structure State.SpacedInv (s : State) : Prop where
  spaced : spaced s.config.gapUs s.trace = true
  pending : endsInAccess s.trace = true → s.busy = true ∧ s.STEP % 2 = 1

/-- The same state of a block built with the failure policy `p` (00_scope.md R8). -/
def State.withPolicy (s : State) (p : SeqPolicy) : State :=
  { s with config := { s.config with seqPolicy := p } }

/-- The number of the first failed access, or 0 (10_state.md R36), from the success flags in order. -/
def firstFailure : List Bool → Nat
  | [] => 0
  | false :: _ => 1
  | true :: oks =>
    match firstFailure oks with
    | 0 => 0
    | n + 1 => n + 2

/-- The register pair of each decode command, MSB first, by bus address (43_decode_pipeline.md R161,
10_state.md R40); `none` for the other commands. -/
def decoderPair : Instr → Option (Byte × Byte)
  | .decq => some (0x02, 0x03)
  | .decv => some (0x08, 0x09)
  | .dect => some (0x0C, 0x0D)
  | .decvs => some (0x08, 0x09)
  | .dects => some (0x0C, 0x0D)
  | .rdreg _ => none
  | .wrreg _ _ => none
  | .readid => none
  | .init => none
  | .rstq => none

/-- What `OUT` holds after a decode command that assembled `code` (43_decode_pipeline.md R161): the scaled
value after DECVS and DECTS, the code after the others. -/
def decoderOut (c : Config) (i : Instr) (code : Word) : Word :=
  if i = .decvs then scaleV c code else if i = .dects then s16Bits (scaleT c code) else code

/-- The byte a read delivers for an answer: 0x00 when the exchange failed (20_memory.md R67). -/
def Answer.byte (ans : Answer) : Byte := if ans.ok then ans.rx else 0

/-- The event of a one-byte read (20_memory.md R65). -/
def readEvent (c : Config) (a : Byte) (ans : Answer) : BusEvent :=
  .exchange c.devAddr [a] 1 ans.ok (some ans.rx)

/-- The event of a one-byte write (20_memory.md R65). -/
def writeEvent (c : Config) (a v : Byte) (ans : Answer) : BusEvent :=
  .exchange c.devAddr [a, v] 0 ans.ok none

/-- Each access of RSTQ as the bytes it sends and the number it reads back, for the control value `v`
(42_device_control.md R136, R141). -/
def rstqAccesses (v : Byte) : List (List Byte × Nat) :=
  [([0x01], 1), ([0x01, v ||| 0x01], 0), ([0x02, 0x00], 0), ([0x03, 0x00], 0), ([0x01, v], 0)]

/-- The events of RSTQ's first accesses with the answers they got, each followed by the gap
(42_device_control.md R136). -/
def rstqEvents (c : Config) (v : Byte) (answers : List Answer) : List BusEvent :=
  (List.zip (rstqAccesses v) answers).flatMap fun p =>
    [.exchange c.devAddr p.1.1 p.1.2 p.2.ok (if p.1.2 = 1 then some p.2.rx else none), .delay c.gapUs]

end Sys2Proof.Machine
end

