-- ==== Sys2Proof/Certificates/Slice0/Obligations.lean ====
section
/-! DEFINITION. The statements for the provers. Each docstring names the rules of spec/ it formalises. A
statement that fixes a status byte gives each of its fields (`StatusIs`); one that gives a next state
writes it as the state before with the changed fields, so every field it does not name is unchanged. -/

open Sys2Proof Sys2Proof.Machine

/-! ## Encoding -/

/-- The example words of R86 and of vectors L2-E1 to L2-E11 decode as the spec says. -/
def Obligations.ExampleWordsDecode : Prop :=
  decode 0x1000 = .legal (.rdreg 0) ∧ decode 0x1F00 = .legal (.rdreg 15) ∧
  decode 0x20FF = .legal (.wrreg 0 0xFF) ∧
  decode 0x1100 = .legal (.rdreg 1) ∧ decode 0x1D00 = .legal (.rdreg 13) ∧
  decode 0x21D2 = .legal (.wrreg 1 0xD2) ∧ decode 0x2300 = .legal (.wrreg 3 0x00) ∧
  decode 0x2FFF = .legal (.wrreg 15 0xFF) ∧ decode 0x3000 = .legal .readid ∧
  decode 0x4000 = .legal .init ∧ decode 0x5000 = .legal .rstq ∧ decode 0x6000 = .legal .decq ∧
  decode 0x7000 = .legal .decv ∧ decode 0x8000 = .legal .dect ∧ decode 0x9000 = .legal .decvs ∧
  decode 0xA000 = .legal .dects ∧ decode 0x0000 = .illegal 0x0 ∧ decode 0x1001 = .illegal 0x1 ∧
  decode 0x3100 = .illegal 0x3 ∧ decode 0xB000 = .illegal 0xB ∧ decode 0xFFFF = .illegal 0xF ∧
  decode 0x0FFF = .illegal 0x0 ∧ decode 0x3001 = .illegal 0x3 ∧ decode 0xA800 = .illegal 0xA ∧
  decode 0xC123 = .illegal 0xC

/-- Decoding the word of any command gives the command back, with its operands (R81 to R84, R90). -/
def Obligations.DecodeOfEncode : Prop :=
  ∀ i : Instr, decode (encode i) = .legal i

/-- The legal words are exactly the words of the commands, and each is the word of one command only
(R84, R90). -/
def Obligations.LegalWordsAreTheEncodings : Prop :=
  ∀ w : Word, (legal w = true ↔ ∃ i, encode i = w) ∧ ∀ i, decode w = .legal i ↔ encode i = w

/-- Every word that is not legal decodes to "illegal" with its opcode field, and the words with opcode 0x0
or 0xB to 0xF, and those with a nonzero unused field, are not legal (R85, R90). -/
def Obligations.IllegalWordsKeepTheirOpcode : Prop :=
  ∀ w : Word,
    (legal w = false → decode w = .illegal (w.extractLsb' 12 4)) ∧
    ((w.extractLsb' 12 4 = 0x0 ∨ 0xB ≤ (w.extractLsb' 12 4).toNat) → legal w = false) ∧
    (w.extractLsb' 12 4 = 0x1 ∧ w.extractLsb' 0 8 ≠ 0 → legal w = false) ∧
    (3 ≤ (w.extractLsb' 12 4).toNat ∧ w.extractLsb' 0 12 ≠ 0 → legal w = false)

/-- The pseudo-commands and the register names assemble to the words R88 and R89 give. -/
def Obligations.AssemblerNamesAndPseudoCommands : Prop :=
  assembleText ["RDSTAT".toList, "RDCTRL ; control".toList, "WRCTRL 0x3C".toList] =
    some [0x1000, 0x1100, 0x213C] ∧
  (∀ r ∈ chipRegs, assembleLine ("RDREG ".toList ++ r.name.toList) = .command (.rdreg r.addr)) ∧
  chipRegs.map (fun r => r.addr.toNat) = List.range 16 ∧
  assembleLine "WRREG QLSB, 0b101".toList = .command (.wrreg 3 5) ∧
  assembleLine "RDREG 16".toList = .error ∧ assembleLine "WRREG CTRL, 256".toList = .error

/-! ## Reset and parameters -/

/-- The reset values (R38, R230). -/
def Obligations.ResetValues : Prop :=
  State.reset.OUT = 0x0000 ∧ State.reset.RAW = 0x0000 ∧ State.reset.SAVED = 0x00 ∧
  State.reset.STATUS = 0x00 ∧ State.reset.LASTOP = 0x0 ∧ State.reset.STEP = 0 ∧
  State.reset.CUR = { op := 0, a := 0, d := 0 } ∧ State.reset.M8 = 0x00 ∧ State.reset.B8 = 0x00 ∧
  State.reset.S8 = 0x00 ∧ State.reset.OKACC = true ∧ State.reset.FAIL = 0

/-- A due block reset puts every piece of block state to its reset value in one step, in any state (also
inside a command), makes no bus event and leaves the configuration alone (R230, R231, R232). The kept
words and answers are the model's choice (entry 7). -/
def Obligations.BlockResetInOneStep : Prop :=
  ∀ (s : State) (rest : List Nat), s.resets = 0 :: rest →
    step s = .next
      { OUT := 0x0000, RAW := 0x0000, SAVED := 0x00, STATUS := 0x00, LASTOP := 0x0, STEP := 0,
        CUR := { op := 0, a := 0, d := 0 }, M8 := 0x00, B8 := 0x00, S8 := 0x00, OKACC := true, FAIL := 0,
        config := s.config, words := s.words, answers := s.answers, delays := s.delays, resets := rest,
        trace := s.trace }

/-- The built parameters meet the constraints of R8 and R135, whatever the two open durations are. -/
def Obligations.BuiltParametersMeetConstraints : Prop :=
  Config.built.wf = true

/-- No step changes the configuration (R49, R231). -/
def Obligations.ConfigurationNeverChanges : Prop :=
  ∀ s t : State, step s = .next t → t.config = s.config

/-! ## The command port and the engine -/

/-- In a step in which no reset is due: an idle block whose port holds the word of a command meets that
command, the word taken; a busy block runs the command in `CUR`; an idle block whose port holds no word
does nothing (R100, R101, R112; that doing nothing is a step is entry 3). In each case the count to the
next reset falls by one (entry 2). -/
def Obligations.StepRunsTheDecodedCommand : Prop :=
  ∀ (s : State) (later : List Nat), s.ResetsLater later →
    (∀ w ws i, s.Idle → s.words = w :: ws → decode w = .legal i →
      step s = exec i { s with words := ws, resets := later }) ∧
    (∀ i, s.Running i → step s = exec i { s with resets := later }) ∧
    (s.Idle → s.words = [] → step s = .next { s with resets := later })

/-- Acceptance: an idle block that meets a legal word latches its fields, starts its outcome latches and
sets `BUSY`, and changes nothing else (R101). -/
def Obligations.LegalWordIsAccepted : Prop :=
  ∀ (w : Word) (i : Instr) (s : State), decode w = .legal i → s.Idle →
    ∃ st, exec i s = .next
      { s with
        CUR := { op := w.extractLsb' 12 4, a := w.extractLsb' 8 4, d := w.extractLsb' 0 8 }
        STEP := 0, OKACC := true, FAIL := 0, STATUS := st } ∧
      statusBusy st = true ∧ st.setWidth 7 = s.STATUS.setWidth 7

/-- An illegal word is refused in one step with no access and no delay (R102, R201). A reset to come later
changes nothing of it but its own count (entry 2). -/
def Obligations.IllegalWordIsRefused : Prop :=
  ∀ (s : State) (later : List Nat) (w : Word) (ws : List Word), s.ResetsLater later → s.Idle →
    s.words = w :: ws → legal w = false →
    ∃ st, step s = .next
        { s with words := ws, resets := later, STATUS := st, LASTOP := w.extractLsb' 12 4 } ∧
      StatusIs st s.STATUS false false true 0 false

/-- While a command executes no word is taken, and another command met by the block changes nothing
(R100, R238). -/
def Obligations.WordWaitsWhileBusy : Prop :=
  ∀ s : State, s.busy = true →
    (∀ t, step s = .next t → t.words = s.words) ∧
    (∀ i, s.CUR ≠ i.fields → exec i s = .next s)

/-- A read: the byte goes to `B8` and the named latch, 0x00 if the exchange failed, and a failure is
noted (R65, R67, R105, R36). -/
def Obligations.ReadMicroOperation : Prop :=
  ∀ (i : Instr) (s : State) (k : BitVec 3) (a : Byte) (l : Latch) (ans : Answer) (rest : List Answer),
    s.AtOp i (.rd k a l) → s.answers = ans :: rest →
    exec i s = .next
      { s with
        answers := rest
        trace := s.trace ++ [.exchange s.config.devAddr [a] 1 ans.ok (some ans.rx)]
        B8 := if ans.ok then ans.rx else 0x00
        M8 := if l = .m8 then (if ans.ok then ans.rx else 0x00) else s.M8
        S8 := if l = .s8 then (if ans.ok then ans.rx else 0x00) else s.S8
        OKACC := s.OKACC && ans.ok
        FAIL := if ans.ok = false ∧ s.FAIL = 0 then k else s.FAIL
        STEP := s.STEP + 1 }

/-- A write: the value sent is that of the expression now, and a failure is noted (R65, R103, R106). -/
def Obligations.WriteMicroOperation : Prop :=
  ∀ (i : Instr) (s : State) (k : BitVec 3) (a : Byte) (e : WriteExpr) (ans : Answer)
    (rest : List Answer),
    s.AtOp i (.wr k a e) → s.answers = ans :: rest →
    ∃ v : Byte,
      exec i s = .next
        { s with
          answers := rest
          trace := s.trace ++ [.exchange s.config.devAddr [a, v] 0 ans.ok none]
          OKACC := s.OKACC && ans.ok
          FAIL := if ans.ok = false ∧ s.FAIL = 0 then k else s.FAIL
          STEP := s.STEP + 1 } ∧
      (e = .curD → v = s.CUR.d) ∧ (e = .initCtrl → v = s.config.initCtrl) ∧ (e = .zero → v = 0x00) ∧
      (e = .s8Shutdown → v = s.S8 ||| 0x01) ∧ (e = .s8 → v = s.S8)

/-- A delay that neither ends nor aborts the command adds its event and goes on (R66, R107, R108). -/
def Obligations.DelayMicroOperation : Prop :=
  ∀ (i : Instr) (s : State) (us n : Nat), s.AtOp i (.dly us) → s.delays = n + 1 →
    s.STEP + 1 < (prog s.config i).length →
    (s.config.seqPolicy = .abortAndReport → (i = .init ∨ i = .rstq) → s.OKACC = true) →
    exec i s = .next { s with delays := n, trace := s.trace ++ [.delay us], STEP := s.STEP + 1 }

/-- Every micro-program is access, delay, access, delay, ..., its accesses numbered 1, 2, ... (R103), each
access but INIT's followed by the gap and INIT's by the settle delay (R107). -/
def Obligations.ProgramsAlternateAccessAndDelay : Prop :=
  ∀ (c : Config) (i : Instr) (n : Nat) (m : MicroOp), (prog c i)[n]? = some m →
    (n % 2 = 0 → m.number = some (BitVec.ofNat 3 (n / 2 + 1)) ∧ n + 1 < (prog c i).length) ∧
    (n % 2 = 1 → m = .dly (if i = .init then c.initUs else c.gapUs))

/-- A busy block whose exchange is not answered, or whose delay does not complete, waits: its command
changes nothing, and with no reset to come it stays so, busy, for ever (R112, R114, R214). That waiting is
a step which changes nothing is the model's choice (entry 3). -/
def Obligations.UnansweredBlockWaitsForEver : Prop :=
  ∀ (s : State) (i : Instr) (m : MicroOp), s.AtOp i m →
    (m.isDelay = true → s.delays = 0) → (m.isDelay = false → s.answers = []) →
    exec i s = .next s ∧ (s.resets = [] → ∀ n, run n s = .next s)

/-- `STEP` advances by one or the command completes with `STEP` 0 or the block waits; `CUR` stays
(R113). -/
def Obligations.StepIndexAdvancesByOne : Prop :=
  ∀ s t : State, s.busy = true → s.NoResetDue → step s = .next t →
    t.CUR = s.CUR ∧
    ((t.busy = true ∧ t.STEP = s.STEP ∧ t.trace = s.trace) ∨ (t.busy = true ∧ t.STEP = s.STEP + 1) ∨
      (t.Idle ∧ t.STEP = 0))

/-- Results are visible only at completion: after a step that leaves the block busy, the host-visible
registers are as before but for `BUSY` itself (R101, R110). -/
def Obligations.ResultsOnlyAtCompletion : Prop :=
  ∀ s t : State, step s = .next t → t.busy = true →
    t.OUT = s.OUT ∧ t.RAW = s.RAW ∧ t.SAVED = s.SAVED ∧ t.LASTOP = s.LASTOP ∧
    t.STATUS.setWidth 7 = s.STATUS.setWidth 7

/-- `P_SEQ_POLICY` governs INIT and RSTQ only: the other eight commands run alike under either value
(R104). -/
def Obligations.PolicyGovernsOnlyInitAndRstq : Prop :=
  ∀ (i : Instr) (p : SeqPolicy) (s t : State), i ≠ .init → i ≠ .rstq → exec i s = .next t →
    exec i (s.withPolicy p) = .next (t.withPolicy p)

/-- Every issued command completes: with five answers and five delays to come, an idle block that is issued
a legal word is idle again after at most one acceptance and ten engine steps, and names the command in
`LASTOP` (R109, R114). -/
def Obligations.EveryCommandCompletes : Prop :=
  ∀ (s : State) (i : Instr) (ws : List Word), s.Issues (encode i) ws → 5 ≤ s.answers.length →
    5 ≤ s.delays →
    ∃ n t, n ≤ 11 ∧ run n s = .next t ∧ t.Idle ∧ t.words = ws ∧ t.LASTOP = i.fields.op ∧ t.STEP = 0

/-! ## Completion of each command -/

/-- RDREG's commit, at the end of its last delay (R120, R109). -/
def Obligations.RdregCommits : Prop :=
  ∀ (a : Nibble) (s : State) (n : Nat), s.Running (.rdreg a) → s.STEP = 1 → s.delays = n + 1 →
    ∃ st, exec (.rdreg a) s = .next
      { s with
        OUT := s.B8.setWidth 16, RAW := s.B8.setWidth 16, STATUS := st, LASTOP := 0x1, STEP := 0
        delays := n, trace := s.trace ++ [.delay s.config.gapUs] } ∧
      StatusIs st s.STATUS s.OKACC false false s.FAIL false

/-- WRREG's commit: `OUT`, `RAW` and `SAVED` are unchanged (R121, R109). -/
def Obligations.WrregCommits : Prop :=
  ∀ (a : Nibble) (d : Byte) (s : State) (n : Nat), s.Running (.wrreg a d) → s.STEP = 1 →
    s.delays = n + 1 →
    ∃ st, exec (.wrreg a d) s = .next
      { s with
        STATUS := st, LASTOP := 0x2, STEP := 0, delays := n
        trace := s.trace ++ [.delay s.config.gapUs] } ∧
      StatusIs st s.STATUS s.OKACC false false s.FAIL false

/-- READID's commit: `PRESENT` is `OKACC` and the match of the top two bits with 00 (R130, R131). -/
def Obligations.ReadidCommits : Prop :=
  ∀ (s : State) (n : Nat), s.Running .readid → s.STEP = 1 → s.delays = n + 1 →
    ∃ st, exec .readid s = .next
      { s with
        OUT := s.B8.setWidth 16, RAW := s.B8.setWidth 16, STATUS := st, LASTOP := 0x3, STEP := 0
        delays := n, trace := s.trace ++ [.delay s.config.gapUs] } ∧
      StatusIs st s.STATUS s.OKACC (s.OKACC && decide (s.B8.toNat ≤ 0x3F)) false s.FAIL false

/-- INIT's commit, under either policy (R132, R134). -/
def Obligations.InitCommits : Prop :=
  ∀ (s : State) (n : Nat), s.Running .init → s.STEP = 1 → s.delays = n + 1 →
    ∃ st, exec .init s = .next
      { s with
        STATUS := st, LASTOP := 0x4, STEP := 0, delays := n
        trace := s.trace ++ [.delay s.config.initUs] } ∧
      (s.config.seqPolicy = .fireAndForget → StatusIs st s.STATUS true false false 0 false) ∧
      (s.config.seqPolicy = .abortAndReport → StatusIs st s.STATUS s.OKACC false false s.FAIL false)

/-- RSTQ's commit: at the end of its last delay under either policy, and under ABORT_AND_REPORT at the end
of the delay after any failed access (R108, R137, R138). -/
def Obligations.RstqCommits : Prop :=
  ∀ (s : State) (n : Nat), s.Running .rstq → s.delays = n + 1 →
    (s.STEP = 9 ∨ s.config.seqPolicy = .abortAndReport ∧ s.OKACC = false ∧ s.STEP % 2 = 1 ∧
      s.STEP < 10) →
    ∃ st, exec .rstq s = .next
      { s with
        SAVED := s.S8, STATUS := st, LASTOP := 0x5, STEP := 0, delays := n
        trace := s.trace ++ [.delay s.config.gapUs] } ∧
      (s.config.seqPolicy = .fireAndForget → StatusIs st s.STATUS true false false 0 false) ∧
      (s.config.seqPolicy = .abortAndReport → StatusIs st s.STATUS s.OKACC false false s.FAIL false)

/-- The commit of the three raw decoders: `OUT` and `RAW` are the code `256 * M8 + B8` (R163 to R167). -/
def Obligations.RawDecodersCommit : Prop :=
  ∀ (i : Instr) (s : State) (n : Nat), i = .decq ∨ i = .decv ∨ i = .dect → s.Running i → s.STEP = 3 →
    s.delays = n + 1 →
    ∃ st, exec i s = .next
      { s with
        OUT := BitVec.ofNat 16 (256 * s.M8.toNat + s.B8.toNat)
        RAW := BitVec.ofNat 16 (256 * s.M8.toNat + s.B8.toNat)
        STATUS := st, LASTOP := i.fields.op, STEP := 0, delays := n
        trace := s.trace ++ [.delay s.config.gapUs] } ∧
      StatusIs st s.STATUS s.OKACC false false s.FAIL false

/-- DECVS's commit: with the full-scale code 65535, `OUT` is `floor(code * P_VFS_MV / 65535)` and `RAW` the
code (R163, R164, R168, R170). -/
def Obligations.DecvsCommits : Prop :=
  ∀ (s : State) (n : Nat), s.Running .decvs → s.STEP = 3 → s.delays = n + 1 → s.config.codeFs = 65535 →
    ∃ st, exec .decvs s = .next
      { s with
        OUT := BitVec.ofNat 16 ((256 * s.M8.toNat + s.B8.toNat) * s.config.vfsMv.toNat / 65535)
        RAW := BitVec.ofNat 16 (256 * s.M8.toNat + s.B8.toNat)
        STATUS := st, LASTOP := 0x9, STEP := 0, delays := n
        trace := s.trace ++ [.delay s.config.gapUs] } ∧
      StatusIs st s.STATUS s.OKACC false false s.FAIL false

/-- DECTS's commit: with the full-scale code 65535, `OUT` is the 16 bits of
`floor(code * P_TFS_CK / 65535) - P_TOFF_CK` and `RAW` the code (R163, R164, R169, R171). -/
def Obligations.DectsCommits : Prop :=
  ∀ (s : State) (n : Nat), s.Running .dects → s.STEP = 3 → s.delays = n + 1 → s.config.codeFs = 65535 →
    ∃ st, exec .dects s = .next
      { s with
        OUT := BitVec.ofInt 16
          ((((256 * s.M8.toNat + s.B8.toNat) * s.config.tfsCk.toNat / 65535 : Nat) : Int) -
            (s.config.toffCk.toNat : Int))
        RAW := BitVec.ofNat 16 (256 * s.M8.toNat + s.B8.toNat)
        STATUS := st, LASTOP := 0xA, STEP := 0, delays := n
        trace := s.trace ++ [.delay s.config.gapUs] } ∧
      StatusIs st s.STATUS s.OKACC false false s.FAIL false

/-! ## Whole commands -/

/-- RDREG from issue to completion: one read of the named register, one gap, the byte zero-extended in
`OUT` and `RAW` (R120). -/
def Obligations.RdregFromIssueToResult : Prop :=
  ∀ (a : Nibble) (s : State) (ws : List Word) (ans : Answer) (rest : List Answer) (n : Nat),
    s.Issues (encode (.rdreg a)) ws → s.answers = ans :: rest → s.delays = n + 1 →
    ∃ st, run 3 s = .next
      { s with
        words := ws, answers := rest, delays := n
        trace := s.trace ++ [readEvent s.config (a.setWidth 8) ans, .delay s.config.gapUs]
        CUR := { op := 0x1, a := a, d := 0 }, STEP := 0, B8 := ans.byte, OKACC := ans.ok
        FAIL := if ans.ok then 0 else 1
        OUT := ans.byte.setWidth 16, RAW := ans.byte.setWidth 16, STATUS := st, LASTOP := 0x1 } ∧
      StatusIs st s.STATUS ans.ok false false (if ans.ok then 0 else 1) false

/-- WRREG from issue to completion: one write of the operand byte, no read-back, no retry (R121). -/
def Obligations.WrregFromIssueToResult : Prop :=
  ∀ (a : Nibble) (d : Byte) (s : State) (ws : List Word) (ans : Answer) (rest : List Answer) (n : Nat),
    s.Issues (encode (.wrreg a d)) ws → s.answers = ans :: rest → s.delays = n + 1 →
    ∃ st, run 3 s = .next
      { s with
        words := ws, answers := rest, delays := n
        trace := s.trace ++ [writeEvent s.config (a.setWidth 8) d ans, .delay s.config.gapUs]
        CUR := { op := 0x2, a := a, d := d }, STEP := 0, OKACC := ans.ok
        FAIL := if ans.ok then 0 else 1, STATUS := st, LASTOP := 0x2 } ∧
      StatusIs st s.STATUS ans.ok false false (if ans.ok then 0 else 1) false

/-- READID from issue to completion: one read of the status register; a failed read is neither present nor a
wrong identity, it is `OK` = 0; otherwise `PRESENT` is 1 exactly for the status bytes 0x00..0x3F (R130,
R131). -/
def Obligations.ReadidFromIssueToResult : Prop :=
  ∀ (s : State) (ws : List Word) (ans : Answer) (rest : List Answer) (n : Nat),
    s.Issues (encode .readid) ws → s.answers = ans :: rest → s.delays = n + 1 →
    ∃ st, run 3 s = .next
      { s with
        words := ws, answers := rest, delays := n
        trace := s.trace ++ [readEvent s.config 0x00 ans, .delay s.config.gapUs]
        CUR := { op := 0x3, a := 0, d := 0 }, STEP := 0, B8 := ans.byte, OKACC := ans.ok
        FAIL := if ans.ok then 0 else 1
        OUT := ans.byte.setWidth 16, RAW := ans.byte.setWidth 16, STATUS := st, LASTOP := 0x3 } ∧
      StatusIs st s.STATUS ans.ok (ans.ok && decide (ans.rx.toNat ≤ 0x3F)) false
        (if ans.ok then 0 else 1) false

/-- INIT from issue to completion: one write of `P_INIT_CTRL` to the control register and the settle delay,
with no gap after it; the failure is reported only under ABORT_AND_REPORT (R132, R134). -/
def Obligations.InitFromIssueToResult : Prop :=
  ∀ (s : State) (ws : List Word) (ans : Answer) (rest : List Answer) (n : Nat),
    s.Issues (encode .init) ws → s.answers = ans :: rest → s.delays = n + 1 →
    ∃ st, run 3 s = .next
      { s with
        words := ws, answers := rest, delays := n
        trace := s.trace ++ [writeEvent s.config 0x01 s.config.initCtrl ans, .delay s.config.initUs]
        CUR := { op := 0x4, a := 0, d := 0 }, STEP := 0, OKACC := ans.ok
        FAIL := if ans.ok then 0 else 1, STATUS := st, LASTOP := 0x4 } ∧
      (s.config.seqPolicy = .fireAndForget → StatusIs st s.STATUS true false false 0 false) ∧
      (s.config.seqPolicy = .abortAndReport →
        StatusIs st s.STATUS ans.ok false false (if ans.ok then 0 else 1) false)

/-- Every decode command from issue to completion: both reads are made, MSB first, whatever the first
returned; the code is `256 * msb + lsb` of the bytes delivered; success is the AND of both reads (R160 to
R164, R175). -/
def Obligations.DecodersFromIssueToResult : Prop :=
  ∀ (i : Instr) (msb lsb : Byte) (s : State) (ws : List Word) (a1 a2 : Answer) (rest : List Answer)
    (n : Nat),
    decoderPair i = some (msb, lsb) → s.Issues (encode i) ws → s.answers = a1 :: a2 :: rest →
    s.delays = n + 2 →
    ∃ st, run 5 s = .next
      { s with
        words := ws, answers := rest, delays := n
        trace := s.trace ++
          [readEvent s.config msb a1, .delay s.config.gapUs,
           readEvent s.config lsb a2, .delay s.config.gapUs]
        CUR := i.fields, STEP := 0, M8 := a1.byte, B8 := a2.byte, OKACC := a1.ok && a2.ok
        FAIL := BitVec.ofNat 3 (firstFailure [a1.ok, a2.ok])
        OUT := decoderOut s.config i (BitVec.ofNat 16 (256 * a1.byte.toNat + a2.byte.toNat))
        RAW := BitVec.ofNat 16 (256 * a1.byte.toNat + a2.byte.toNat)
        STATUS := st, LASTOP := i.fields.op } ∧
      StatusIs st s.STATUS (a1.ok && a2.ok) false false
        (BitVec.ofNat 3 (firstFailure [a1.ok, a2.ok])) false

/-- A decode command's results are a function of the answers its reads got: two blocks with the same
parameters, whatever earlier commands left in them, end with the same `OUT`, `RAW`, `STATUS` and `LASTOP`
(R174). The reserved status bit is the one R24 says reads 0. -/
def Obligations.DecodersIgnoreHistory : Prop :=
  ∀ (i : Instr) (pair : Byte × Byte) (s s' : State) (ws ws' : List Word) (a1 a2 : Answer)
    (rest rest' : List Answer),
    decoderPair i = some pair → s.config = s'.config →
    statusReserved s.STATUS = false → statusReserved s'.STATUS = false →
    s.Issues (encode i) ws → s'.Issues (encode i) ws' →
    s.answers = a1 :: a2 :: rest → s'.answers = a1 :: a2 :: rest' → 2 ≤ s.delays → 2 ≤ s'.delays →
    ∃ t t', run 5 s = .next t ∧ run 5 s' = .next t' ∧ t.OUT = t'.OUT ∧ t.RAW = t'.RAW ∧
      t.STATUS = t'.STATUS ∧ t.LASTOP = t'.LASTOP

/-- The host reads a temperature as a signed value (R21, R167, R169): after DECT the code's
two's-complement reading, after DECTS, for parameters that meet R8, the scaled value itself. -/
def Obligations.TemperatureReadsSigned : Prop :=
  ∀ (s : State) (i : Instr) (ws : List Word) (a1 a2 : Answer) (rest : List Answer) (code : Nat),
    i = .dect ∨ i = .dects → s.Issues (encode i) ws → s.answers = a1 :: a2 :: rest → 2 ≤ s.delays →
    s.config.wf = true → s.config.codeFs = 65535 → code = 256 * a1.byte.toNat + a2.byte.toNat →
    ∃ t, run 5 s = .next t ∧
      t.hostView.outReading = some (.s16
        (if i = .dect then (if code < 32768 then (code : Int) else (code : Int) - 65536)
         else ((code * s.config.tfsCk.toNat / 65535 : Nat) : Int) - (s.config.toffCk.toNat : Int)))

/-- RSTQ under FIRE_AND_FORGET from issue to completion: all five accesses are made whatever each returned,
and the writes are `v | SHDN_MASK`, 0x00 to the MSB, 0x00 to the LSB, then `v`, with nothing between but
delays; success is reported whatever happened (R136, R137, R141, R142). -/
def Obligations.RstqFireAndForget : Prop :=
  ∀ (s : State) (ws : List Word) (a1 a2 a3 a4 a5 : Answer) (rest : List Answer) (n : Nat) (v : Byte),
    s.Issues (encode .rstq) ws → s.config.seqPolicy = .fireAndForget →
    s.answers = a1 :: a2 :: a3 :: a4 :: a5 :: rest → s.delays = n + 5 → v = a1.byte →
    ∃ st, run 11 s = .next
      { s with
        words := ws, answers := rest, delays := n
        trace := s.trace ++
          [readEvent s.config 0x01 a1, .delay s.config.gapUs,
           writeEvent s.config 0x01 (v ||| 0x01) a2, .delay s.config.gapUs,
           writeEvent s.config 0x02 0x00 a3, .delay s.config.gapUs,
           writeEvent s.config 0x03 0x00 a4, .delay s.config.gapUs,
           writeEvent s.config 0x01 v a5, .delay s.config.gapUs]
        CUR := { op := 0x5, a := 0, d := 0 }, STEP := 0, B8 := v, S8 := v
        OKACC := a1.ok && a2.ok && a3.ok && a4.ok && a5.ok
        FAIL := BitVec.ofNat 3 (firstFailure [a1.ok, a2.ok, a3.ok, a4.ok, a5.ok])
        SAVED := v, STATUS := st, LASTOP := 0x5 } ∧
      StatusIs st s.STATUS true false false 0 false

/-- RSTQ under ABORT_AND_REPORT whose access `k` is the first to fail: exactly the accesses 1..k are made,
each with its delay, the rest never, and `ERRSTEP` reports `k` (R108, R138). -/
def Obligations.RstqAbortsAtFirstFailure : Prop :=
  ∀ (s : State) (ws : List Word) (oks : List Answer) (bad : Answer) (rest : List Answer) (n : Nat)
    (v : Byte),
    s.Issues (encode .rstq) ws → s.config.seqPolicy = .abortAndReport →
    oks.length ≤ 4 → (∀ a ∈ oks, a.ok = true) → bad.ok = false →
    s.answers = oks ++ bad :: rest → s.delays = n + (oks.length + 1) →
    v = ((oks ++ [bad]).headD bad).byte →
    ∃ t, run (2 * oks.length + 3) s = .next t ∧
      t.trace = s.trace ++ rstqEvents s.config v (oks ++ [bad]) ∧
      t.answers = rest ∧ t.delays = n ∧ t.words = ws ∧ t.SAVED = v ∧ t.LASTOP = 0x5 ∧ t.STEP = 0 ∧
      t.OUT = s.OUT ∧ t.RAW = s.RAW ∧
      StatusIs t.STATUS s.STATUS false false false (BitVec.ofNat 3 (oks.length + 1)) false

/-- RSTQ under ABORT_AND_REPORT with no failed access: the same five accesses as under FIRE_AND_FORGET, and
success with `ERRSTEP` 0 (R138, R141). -/
def Obligations.RstqReportsSuccess : Prop :=
  ∀ (s : State) (ws : List Word) (oks : List Answer) (rest : List Answer) (n : Nat) (v : Byte),
    s.Issues (encode .rstq) ws → s.config.seqPolicy = .abortAndReport →
    oks.length = 5 → (∀ a ∈ oks, a.ok = true) → s.answers = oks ++ rest → s.delays = n + 5 →
    oks.head?.map Answer.byte = some v →
    ∃ t, run 11 s = .next t ∧ t.trace = s.trace ++ rstqEvents s.config v oks ∧ t.answers = rest ∧
      t.delays = n ∧ t.words = ws ∧ t.SAVED = v ∧ t.LASTOP = 0x5 ∧ t.OUT = s.OUT ∧ t.RAW = s.RAW ∧
      StatusIs t.STATUS s.STATUS true false false 0 false

/-- The reset sequencer's state table (R139): from a phase whose micro-operation is answered, the next
phase is that of the table, and DONE after the last delay or, when aborting, after any delay. -/
def Obligations.RstqPhaseTable : Prop :=
  ∀ (s : State) (p : RstqPhase), s.Running .rstq → s.rstqPhase = some p → s.resets = [] →
    s.answers ≠ [] → s.delays ≠ 0 →
    ∃ t, step s = .next t ∧
      (if p.isGap = true ∧ s.aborting = true ∨ p.next = none then t.Idle ∧ t.STEP = 0
       else t.rstqPhase = p.next)

/-- The chip mode transitions RSTQ drives on a chip where every access succeeds and lands (R140): from a
control value `v`, shut down with the control byte `v | 0x01` from the second access until the fifth,
accumulator zero after the fourth, and at the end `v` restored, the accumulator zero and every other
register as it was. -/
def Obligations.RstqChipTransitions : Prop :=
  ∀ (s t : State) (ws : List Word) (a1 a2 a3 a4 a5 : Answer) (rest : List Answer) (m : ChipMem)
    (events : List BusEvent),
    s.Issues (encode .rstq) ws → s.answers = a1 :: a2 :: a3 :: a4 :: a5 :: rest → 5 ≤ s.delays →
    a1.ok = true → a2.ok = true → a3.ok = true → a4.ok = true → a5.ok = true →
    a1.rx = chipRead m 0x01 → run 11 s = .next t → t.trace = s.trace ++ events →
    (chipRead (chipAfter m (events.take 4)) 0x01 = chipRead m 0x01 ||| 0x01 ∧
      controlShutDown (chipRead (chipAfter m (events.take 4)) 0x01) = true) ∧
    chipRead (chipAfter m (events.take 6)) 0x01 = chipRead m 0x01 ||| 0x01 ∧
    (chipRead (chipAfter m (events.take 8)) 0x01 = chipRead m 0x01 ||| 0x01 ∧
      controlShutDown (chipRead (chipAfter m (events.take 8)) 0x01) = true ∧
      chipRead (chipAfter m (events.take 8)) 0x02 = 0 ∧
      chipRead (chipAfter m (events.take 8)) 0x03 = 0) ∧
    (∀ a : Byte, chipRead (chipAfter m events) a =
      if a = 0x02 ∨ a = 0x03 then 0x00 else chipRead m a)

/-! ## Whole-machine rules -/

/-- The block's invariant holds at reset. -/
def Obligations.InvariantHoldsAtReset : Prop :=
  State.reset.Inv

/-- Every step keeps the block's invariant (R24, R26, R28, R31, R36, R39, R113). -/
def Obligations.StepKeepsInvariant : Prop :=
  ∀ s t : State, s.Inv → step s = .next t → t.Inv

/-- From every state that meets the invariant `step` answers a next state: no fault, no refusal; `STEP`
always points into the micro-program (R113). R112 and R214 say that a waiting block has no enabled step;
that `step` then answers the same state is the model's choice (entry 3). -/
def Obligations.MachineNeverStops : Prop :=
  ∀ s : State, s.Inv → ∃ t, step s = .next t

/-- A step adds at most one event to the trace and never takes one back, and the event has the shape of
R60 to R62, R64 and R66: no register address outside 0x00..0x0F is ever sent (R61). -/
def Obligations.EveryBusEventIsShaped : Prop :=
  ∀ s t : State, step s = .next t →
    t.trace = s.trace ∨ ∃ e, t.trace = s.trace ++ [e] ∧ e.Shaped s.config

/-- Accesses are spaced by at least the gap, within and across commands, in a block whose parameters meet
R135 (R107, R239). A step that is a block reset is left out: it can cut a delay short (entry 8). -/
def Obligations.AccessesAreSpaced : Prop :=
  ∀ s t : State, s.config.wf = true → s.NoResetDue → s.SpacedInv → step s = .next t → t.SpacedInv

/-- A fresh block has made no access, so the spacing invariant holds at reset. -/
def Obligations.SpacingHoldsAtReset : Prop :=
  State.reset.SpacedInv

/-- Only the completion of RSTQ writes `SAVED` (R23). -/
def Obligations.OnlyRstqWritesSaved : Prop :=
  ∀ s t : State, s.NoResetDue → step s = .next t → t.SAVED ≠ s.SAVED →
    s.busy = true ∧ s.CUR = Instr.rstq.fields ∧ t.Idle ∧ t.LASTOP = 0x5 ∧ t.SAVED = s.S8

/-- `OUT` and `RAW` change only at the completion of a command that produces a value; WRREG, INIT, RSTQ
and an illegal word leave them (R21, R22). -/
def Obligations.OnlyValueCommandsWriteOut : Prop :=
  ∀ s t : State, s.NoResetDue → step s = .next t → t.OUT ≠ s.OUT ∨ t.RAW ≠ s.RAW →
    s.busy = true ∧ t.Idle ∧ statusIllegal t.STATUS = false ∧
    (t.LASTOP = 0x1 ∨ t.LASTOP = 0x3 ∨ t.LASTOP = 0x6 ∨ t.LASTOP = 0x7 ∨ t.LASTOP = 0x8 ∨
      t.LASTOP = 0x9 ∨ t.LASTOP = 0xA)

/-! ## Arithmetic of the pipeline -/

/-- Assembly is a bijection from pairs of bytes to codes, the MSB in the high byte (R163, R173). -/
def Obligations.AssemblyIsBijective : Prop :=
  (∀ m l : Byte, (assembleCode m l).toNat = 256 * m.toNat + l.toNat ∧
    (assembleCode m l).extractLsb' 8 8 = m ∧ (assembleCode m l).extractLsb' 0 8 = l) ∧
  ∀ code : Word, assembleCode (code.extractLsb' 8 8) (code.extractLsb' 0 8) = code

/-- The 32-bit voltage scaling is exact: for codes up to the full scale, `scaleV` is
`floor(code * P_VFS_MV / P_CODE_FS)`, at most `P_VFS_MV`, and its truncation error is less than one
(R170, R173). -/
def Obligations.VoltageScalingIsExact : Prop :=
  ∀ (c : Config) (code : Word), 0 < c.codeFs.toNat → code.toNat ≤ c.codeFs.toNat →
    (scaleV c code).toNat = code.toNat * c.vfsMv.toNat / c.codeFs.toNat ∧
    (scaleV c code).toNat ≤ c.vfsMv.toNat ∧
    (scaleV c code).toNat * c.codeFs.toNat ≤ code.toNat * c.vfsMv.toNat ∧
    code.toNat * c.vfsMv.toNat < ((scaleV c code).toNat + 1) * c.codeFs.toNat

/-- The 32-bit temperature scaling is exact and its result fits 16 signed bits, for parameters that meet
R8 and codes up to the full scale (R171, R173). -/
def Obligations.TemperatureScalingIsExact : Prop :=
  ∀ (c : Config) (code : Word), c.wf = true → code.toNat ≤ c.codeFs.toNat →
    scaleT c code =
      ((code.toNat * c.tfsCk.toNat / c.codeFs.toNat : Nat) : Int) - (c.toffCk.toNat : Int) ∧
    -32768 ≤ scaleT c code ∧ scaleT c code ≤ 32767 ∧ (s16Bits (scaleT c code)).toInt = scaleT c code

/-- Both scalings are monotone in the code (R173). -/
def Obligations.ScalingIsMonotone : Prop :=
  ∀ (c : Config) (code code' : Word), 0 < c.codeFs.toNat → code'.toNat ≤ c.codeFs.toNat →
    code.toNat ≤ code'.toNat →
    (scaleV c code).toNat ≤ (scaleV c code').toNat ∧ scaleT c code ≤ scaleT c code'
end

