-- ==== Sys2Proof/Laws/Decode.lean ====
section
/-! SUPPORT. The fields of a word and the word of some fields (30_encoding.md R81). -/

namespace Sys2Proof

/-- The fields of a word built from fields are those fields. -/
@[simp] theorem wordFields_fieldsWord (f : CmdFields) : wordFields (fieldsWord f) = f := by
  obtain ⟨op, a, d⟩ := f
  simp only [wordFields, fieldsWord, CmdFields.mk.injEq]
  refine ⟨?_, ?_, ?_⟩
  · ext j hj
    have h1 : ¬ 12 + j < 8 := by omega
    have h2 : (12 + j - 8) ≥ 4 := by omega
    have h3 : d.getLsbD (12 + j) = false := BitVec.getLsbD_of_ge _ _ (by omega)
    have h4 : a.getLsbD (12 + j - 8) = false := BitVec.getLsbD_of_ge _ _ h2
    have h5 : 12 + j < 16 := by omega
    simp [h1, h3, h4, h5, hj]
  · ext j hj
    have h1 : 8 + j < 12 := by omega
    have h5 : 8 + j < 16 := by omega
    simp [h1, h5, hj]
  · ext j hj
    have h1 : j < 12 := by omega
    have h5 : j < 16 := by omega
    simp [h1, h5, hj]

/-- A word is made of its fields. -/
@[simp] theorem fieldsWord_wordFields (w : Word) : fieldsWord (wordFields w) = w := by
  ext j hj
  simp only [wordFields, fieldsWord]
  by_cases h8 : j < 8
  · have h12 : j < 12 := by omega
    simp [h8, h12, hj]
  · by_cases h12 : j < 12
    · have e : 8 + (j - 8) = j := by omega
      have h4 : j - 8 < 4 := by omega
      simp [h8, h12, hj, e, h4]
    · have e : 12 + (j - 12) = j := by omega
      have h4 : j - 12 < 4 := by omega
      have h5 : ¬ j - 8 < 4 := by omega
      simp [h8, h12, hj, e, h4, h5]

/-- The low twelve bits of a word are zero exactly when its fields `A` and `D` are. -/
theorem fieldsWord_low_eq_zero (f : CmdFields) :
    ((fieldsWord f).extractLsb' 0 12 == 0#12) = (f.a == 0 && f.d == 0) := by
  have low : (fieldsWord f).extractLsb' 0 12 = (f.a.setWidth 12 <<< 8) ||| f.d.setWidth 12 := by
    ext j hj
    have h16 : j < 16 := by omega
    by_cases h8 : j < 8
    · simp [fieldsWord, hj, h8, h16]
    · have h4 : j - 8 < 4 := by omega
      simp [fieldsWord, hj, h8, h16, h4]
  obtain ⟨op, a, d⟩ := f
  rw [low, Bool.eq_iff_iff]
  simp only [beq_iff_eq, Bool.and_eq_true]
  constructor
  · intro h
    constructor
    · ext j hj
      have hb := congrArg (fun v : BitVec 12 => v.getLsbD (8 + j)) h
      have h12 : 8 + j < 12 := by omega
      simpa [hj, h12] using hb
    · ext j hj
      have hb := congrArg (fun v : BitVec 12 => v.getLsbD j) h
      have h12 : j < 12 := by omega
      simpa [hj, h12] using hb
  · rintro ⟨rfl, rfl⟩
    rfl

/-- A word is legal (30_encoding.md R84) exactly when its fields are well-formed. -/
theorem legal_fieldsWord (f : CmdFields) : legal (fieldsWord f) = f.wf := by
  have hop : (fieldsWord f).extractLsb' 12 4 = f.op := congrArg CmdFields.op (wordFields_fieldsWord f)
  have hd : (fieldsWord f).extractLsb' 0 8 = f.d := congrArg CmdFields.d (wordFields_fieldsWord f)
  simp only [legal, hop, hd, fieldsWord_low_eq_zero, CmdFields.wf, BitVec.ofNat_eq_ofNat]
  generalize (f.a == 0#4) = aZero
  generalize (f.d == 0#8) = dZero
  generalize f.op = op
  revert op aZero dZero
  decide

end Sys2Proof
end

