-- ==== Sys2Proof/Laws/Flags.lean ====
section
/-! SUPPORT. Each field of `STATUS` after each write (10_state.md R24): a write changes its own field and
no other. -/

namespace Sys2Proof.Machine

theorem statusOk_writeBit_0 : ∀ (v : Byte) (b : Bool), statusOk (writeBit v 0 b) = b := by decide
theorem statusPresent_writeBit_0 : ∀ (v : Byte) (b : Bool), statusPresent (writeBit v 0 b) = statusPresent v := by decide
theorem statusIllegal_writeBit_0 : ∀ (v : Byte) (b : Bool), statusIllegal (writeBit v 0 b) = statusIllegal v := by decide
theorem statusReserved_writeBit_0 : ∀ (v : Byte) (b : Bool), statusReserved (writeBit v 0 b) = statusReserved v := by decide
theorem statusErrstep_writeBit_0 : ∀ (v : Byte) (b : Bool), statusErrstep (writeBit v 0 b) = statusErrstep v := by decide
theorem statusBusy_writeBit_0 : ∀ (v : Byte) (b : Bool), statusBusy (writeBit v 0 b) = statusBusy v := by decide
theorem statusOk_writeBit_1 : ∀ (v : Byte) (b : Bool), statusOk (writeBit v 1 b) = statusOk v := by decide
theorem statusPresent_writeBit_1 : ∀ (v : Byte) (b : Bool), statusPresent (writeBit v 1 b) = b := by decide
theorem statusIllegal_writeBit_1 : ∀ (v : Byte) (b : Bool), statusIllegal (writeBit v 1 b) = statusIllegal v := by decide
theorem statusReserved_writeBit_1 : ∀ (v : Byte) (b : Bool), statusReserved (writeBit v 1 b) = statusReserved v := by decide
theorem statusErrstep_writeBit_1 : ∀ (v : Byte) (b : Bool), statusErrstep (writeBit v 1 b) = statusErrstep v := by decide
theorem statusBusy_writeBit_1 : ∀ (v : Byte) (b : Bool), statusBusy (writeBit v 1 b) = statusBusy v := by decide
theorem statusOk_writeBit_2 : ∀ (v : Byte) (b : Bool), statusOk (writeBit v 2 b) = statusOk v := by decide
theorem statusPresent_writeBit_2 : ∀ (v : Byte) (b : Bool), statusPresent (writeBit v 2 b) = statusPresent v := by decide
theorem statusIllegal_writeBit_2 : ∀ (v : Byte) (b : Bool), statusIllegal (writeBit v 2 b) = b := by decide
theorem statusReserved_writeBit_2 : ∀ (v : Byte) (b : Bool), statusReserved (writeBit v 2 b) = statusReserved v := by decide
theorem statusErrstep_writeBit_2 : ∀ (v : Byte) (b : Bool), statusErrstep (writeBit v 2 b) = statusErrstep v := by decide
theorem statusBusy_writeBit_2 : ∀ (v : Byte) (b : Bool), statusBusy (writeBit v 2 b) = statusBusy v := by decide
theorem statusOk_writeBit_7 : ∀ (v : Byte) (b : Bool), statusOk (writeBit v 7 b) = statusOk v := by decide
theorem statusPresent_writeBit_7 : ∀ (v : Byte) (b : Bool), statusPresent (writeBit v 7 b) = statusPresent v := by decide
theorem statusIllegal_writeBit_7 : ∀ (v : Byte) (b : Bool), statusIllegal (writeBit v 7 b) = statusIllegal v := by decide
theorem statusReserved_writeBit_7 : ∀ (v : Byte) (b : Bool), statusReserved (writeBit v 7 b) = statusReserved v := by decide
theorem statusErrstep_writeBit_7 : ∀ (v : Byte) (b : Bool), statusErrstep (writeBit v 7 b) = statusErrstep v := by decide
theorem statusBusy_writeBit_7 : ∀ (v : Byte) (b : Bool), statusBusy (writeBit v 7 b) = b := by decide

@[simp] theorem statusOk_writeErrstep :
    ∀ (v : Byte) (e : BitVec 3), statusOk (writeErrstep v e) = statusOk v := by decide
@[simp] theorem statusPresent_writeErrstep :
    ∀ (v : Byte) (e : BitVec 3), statusPresent (writeErrstep v e) = statusPresent v := by decide
@[simp] theorem statusIllegal_writeErrstep :
    ∀ (v : Byte) (e : BitVec 3), statusIllegal (writeErrstep v e) = statusIllegal v := by decide
@[simp] theorem statusReserved_writeErrstep :
    ∀ (v : Byte) (e : BitVec 3), statusReserved (writeErrstep v e) = statusReserved v := by decide
@[simp] theorem statusErrstep_writeErrstep :
    ∀ (v : Byte) (e : BitVec 3), statusErrstep (writeErrstep v e) = e := by decide
@[simp] theorem statusBusy_writeErrstep :
    ∀ (v : Byte) (e : BitVec 3), statusBusy (writeErrstep v e) = statusBusy v := by decide

@[simp] theorem statusOk_writeBusy (v : Byte) (b : Bool) : statusOk (writeBusy v b) = statusOk v :=
  statusOk_writeBit_7 v b
@[simp] theorem statusPresent_writeBusy (v : Byte) (b : Bool) : statusPresent (writeBusy v b) = statusPresent v :=
  statusPresent_writeBit_7 v b
@[simp] theorem statusIllegal_writeBusy (v : Byte) (b : Bool) : statusIllegal (writeBusy v b) = statusIllegal v :=
  statusIllegal_writeBit_7 v b
@[simp] theorem statusReserved_writeBusy (v : Byte) (b : Bool) : statusReserved (writeBusy v b) = statusReserved v :=
  statusReserved_writeBit_7 v b
@[simp] theorem statusErrstep_writeBusy (v : Byte) (b : Bool) : statusErrstep (writeBusy v b) = statusErrstep v :=
  statusErrstep_writeBit_7 v b
@[simp] theorem statusBusy_writeBusy (v : Byte) (b : Bool) : statusBusy (writeBusy v b) = b :=
  statusBusy_writeBit_7 v b

@[simp] theorem statusOk_writeReport (v : Byte) (ok present illegal : Bool) (err : BitVec 3) :
    statusOk (writeReport v ok present illegal err) = ok := by
  simp [writeReport, statusOk_writeBit_0, statusOk_writeBit_1, statusOk_writeBit_2]
@[simp] theorem statusPresent_writeReport (v : Byte) (ok present illegal : Bool) (err : BitVec 3) :
    statusPresent (writeReport v ok present illegal err) = present := by
  simp [writeReport, statusPresent_writeBit_1, statusPresent_writeBit_2]
@[simp] theorem statusIllegal_writeReport (v : Byte) (ok present illegal : Bool) (err : BitVec 3) :
    statusIllegal (writeReport v ok present illegal err) = illegal := by
  simp [writeReport, statusIllegal_writeBit_2]
@[simp] theorem statusReserved_writeReport (v : Byte) (ok present illegal : Bool) (err : BitVec 3) :
    statusReserved (writeReport v ok present illegal err) = statusReserved v := by
  simp [writeReport, statusReserved_writeBit_0, statusReserved_writeBit_1, statusReserved_writeBit_2]
@[simp] theorem statusErrstep_writeReport (v : Byte) (ok present illegal : Bool) (err : BitVec 3) :
    statusErrstep (writeReport v ok present illegal err) = err := by
  simp [writeReport]
@[simp] theorem statusBusy_writeReport (v : Byte) (ok present illegal : Bool) (err : BitVec 3) :
    statusBusy (writeReport v ok present illegal err) = statusBusy v := by
  simp [writeReport, statusBusy_writeBit_0, statusBusy_writeBit_1, statusBusy_writeBit_2]

/-- Setting `BUSY` leaves bits 6:0 as they are (40_engine.md R101). -/
theorem writeBusy_low : ∀ (v : Byte) (b : Bool), (writeBusy v b).setWidth 7 = v.setWidth 7 := by decide

/-- A status byte rebuilt from its fields (10_state.md R24). -/
theorem status_rebuild : ∀ v : Byte,
    v = writeBusy (writeReport (writeBit 0 3 (statusReserved v)) (statusOk v) (statusPresent v)
      (statusIllegal v) (statusErrstep v)) (statusBusy v) := by decide

/-- Two status bytes with the same fields are equal (10_state.md R24). -/
theorem status_ext {v w : Byte} (ok : statusOk v = statusOk w)
    (present : statusPresent v = statusPresent w) (illegal : statusIllegal v = statusIllegal w)
    (reserved : statusReserved v = statusReserved w) (errstep : statusErrstep v = statusErrstep w)
    (busy : statusBusy v = statusBusy w) : v = w := by
  rw [status_rebuild v, status_rebuild w, ok, present, illegal, reserved, errstep, busy]

/-- A completion overwrites what acceptance wrote to `BUSY`. -/
@[simp] theorem writeBusy_writeReport_writeBusy (v : Byte) (ok present illegal b c : Bool)
    (err : BitVec 3) : writeBusy (writeReport (writeBusy v b) ok present illegal err) c =
      writeBusy (writeReport v ok present illegal err) c := by
  apply status_ext <;> simp

/-- The fields of the status a completion writes (10_state.md R37). -/
theorem statusIs_writeReport_writeBusy (v : Byte) (ok present illegal : Bool) (err : BitVec 3) :
    StatusIs (writeBusy (writeReport v ok present illegal err) false) v ok present illegal err false := by
  constructor <;> simp

end Sys2Proof.Machine
end

