-- ==== Sys2Proof/Laws/State.lean ====
section
/-! SUPPORT. Every field of the state after each named update: a changed field's new value, and every
other field kept. -/

namespace Sys2Proof.Machine

@[simp] theorem State.accept_OUT (s : State) (f : CmdFields) : (s.accept f).OUT = s.OUT := rfl
@[simp] theorem State.accept_RAW (s : State) (f : CmdFields) : (s.accept f).RAW = s.RAW := rfl
@[simp] theorem State.accept_SAVED (s : State) (f : CmdFields) : (s.accept f).SAVED = s.SAVED := rfl
@[simp] theorem State.accept_STATUS (s : State) (f : CmdFields) : (s.accept f).STATUS = writeBusy s.STATUS true := rfl
@[simp] theorem State.accept_LASTOP (s : State) (f : CmdFields) : (s.accept f).LASTOP = s.LASTOP := rfl
@[simp] theorem State.accept_STEP (s : State) (f : CmdFields) : (s.accept f).STEP = 0 := rfl
@[simp] theorem State.accept_CUR (s : State) (f : CmdFields) : (s.accept f).CUR = f := rfl
@[simp] theorem State.accept_M8 (s : State) (f : CmdFields) : (s.accept f).M8 = s.M8 := rfl
@[simp] theorem State.accept_B8 (s : State) (f : CmdFields) : (s.accept f).B8 = s.B8 := rfl
@[simp] theorem State.accept_S8 (s : State) (f : CmdFields) : (s.accept f).S8 = s.S8 := rfl
@[simp] theorem State.accept_OKACC (s : State) (f : CmdFields) : (s.accept f).OKACC = true := rfl
@[simp] theorem State.accept_FAIL (s : State) (f : CmdFields) : (s.accept f).FAIL = 0 := rfl
@[simp] theorem State.accept_config (s : State) (f : CmdFields) : (s.accept f).config = s.config := rfl
@[simp] theorem State.accept_words (s : State) (f : CmdFields) : (s.accept f).words = s.words := rfl
@[simp] theorem State.accept_answers (s : State) (f : CmdFields) : (s.accept f).answers = s.answers := rfl
@[simp] theorem State.accept_delays (s : State) (f : CmdFields) : (s.accept f).delays = s.delays := rfl
@[simp] theorem State.accept_resets (s : State) (f : CmdFields) : (s.accept f).resets = s.resets := rfl
@[simp] theorem State.accept_trace (s : State) (f : CmdFields) : (s.accept f).trace = s.trace := rfl

@[simp] theorem State.finish_OUT (s : State) : (s.finish).OUT = s.OUT := rfl
@[simp] theorem State.finish_RAW (s : State) : (s.finish).RAW = s.RAW := rfl
@[simp] theorem State.finish_SAVED (s : State) : (s.finish).SAVED = s.SAVED := rfl
@[simp] theorem State.finish_STATUS (s : State) : (s.finish).STATUS = writeBusy s.STATUS false := rfl
@[simp] theorem State.finish_LASTOP (s : State) : (s.finish).LASTOP = s.CUR.op := rfl
@[simp] theorem State.finish_STEP (s : State) : (s.finish).STEP = 0 := rfl
@[simp] theorem State.finish_CUR (s : State) : (s.finish).CUR = s.CUR := rfl
@[simp] theorem State.finish_M8 (s : State) : (s.finish).M8 = s.M8 := rfl
@[simp] theorem State.finish_B8 (s : State) : (s.finish).B8 = s.B8 := rfl
@[simp] theorem State.finish_S8 (s : State) : (s.finish).S8 = s.S8 := rfl
@[simp] theorem State.finish_OKACC (s : State) : (s.finish).OKACC = s.OKACC := rfl
@[simp] theorem State.finish_FAIL (s : State) : (s.finish).FAIL = s.FAIL := rfl
@[simp] theorem State.finish_config (s : State) : (s.finish).config = s.config := rfl
@[simp] theorem State.finish_words (s : State) : (s.finish).words = s.words := rfl
@[simp] theorem State.finish_answers (s : State) : (s.finish).answers = s.answers := rfl
@[simp] theorem State.finish_delays (s : State) : (s.finish).delays = s.delays := rfl
@[simp] theorem State.finish_resets (s : State) : (s.finish).resets = s.resets := rfl
@[simp] theorem State.finish_trace (s : State) : (s.finish).trace = s.trace := rfl

@[simp] theorem State.advance_OUT (s : State) : (s.advance).OUT = s.OUT := rfl
@[simp] theorem State.advance_RAW (s : State) : (s.advance).RAW = s.RAW := rfl
@[simp] theorem State.advance_SAVED (s : State) : (s.advance).SAVED = s.SAVED := rfl
@[simp] theorem State.advance_STATUS (s : State) : (s.advance).STATUS = s.STATUS := rfl
@[simp] theorem State.advance_LASTOP (s : State) : (s.advance).LASTOP = s.LASTOP := rfl
@[simp] theorem State.advance_STEP (s : State) : (s.advance).STEP = s.STEP + 1 := rfl
@[simp] theorem State.advance_CUR (s : State) : (s.advance).CUR = s.CUR := rfl
@[simp] theorem State.advance_M8 (s : State) : (s.advance).M8 = s.M8 := rfl
@[simp] theorem State.advance_B8 (s : State) : (s.advance).B8 = s.B8 := rfl
@[simp] theorem State.advance_S8 (s : State) : (s.advance).S8 = s.S8 := rfl
@[simp] theorem State.advance_OKACC (s : State) : (s.advance).OKACC = s.OKACC := rfl
@[simp] theorem State.advance_FAIL (s : State) : (s.advance).FAIL = s.FAIL := rfl
@[simp] theorem State.advance_config (s : State) : (s.advance).config = s.config := rfl
@[simp] theorem State.advance_words (s : State) : (s.advance).words = s.words := rfl
@[simp] theorem State.advance_answers (s : State) : (s.advance).answers = s.answers := rfl
@[simp] theorem State.advance_delays (s : State) : (s.advance).delays = s.delays := rfl
@[simp] theorem State.advance_resets (s : State) : (s.advance).resets = s.resets := rfl
@[simp] theorem State.advance_trace (s : State) : (s.advance).trace = s.trace := rfl

@[simp] theorem State.noteFail_OUT (s : State) (k : BitVec 3) : (s.noteFail k).OUT = s.OUT := rfl
@[simp] theorem State.noteFail_RAW (s : State) (k : BitVec 3) : (s.noteFail k).RAW = s.RAW := rfl
@[simp] theorem State.noteFail_SAVED (s : State) (k : BitVec 3) : (s.noteFail k).SAVED = s.SAVED := rfl
@[simp] theorem State.noteFail_STATUS (s : State) (k : BitVec 3) : (s.noteFail k).STATUS = s.STATUS := rfl
@[simp] theorem State.noteFail_LASTOP (s : State) (k : BitVec 3) : (s.noteFail k).LASTOP = s.LASTOP := rfl
@[simp] theorem State.noteFail_STEP (s : State) (k : BitVec 3) : (s.noteFail k).STEP = s.STEP := rfl
@[simp] theorem State.noteFail_CUR (s : State) (k : BitVec 3) : (s.noteFail k).CUR = s.CUR := rfl
@[simp] theorem State.noteFail_M8 (s : State) (k : BitVec 3) : (s.noteFail k).M8 = s.M8 := rfl
@[simp] theorem State.noteFail_B8 (s : State) (k : BitVec 3) : (s.noteFail k).B8 = s.B8 := rfl
@[simp] theorem State.noteFail_S8 (s : State) (k : BitVec 3) : (s.noteFail k).S8 = s.S8 := rfl
@[simp] theorem State.noteFail_OKACC (s : State) (k : BitVec 3) : (s.noteFail k).OKACC = false := rfl
@[simp] theorem State.noteFail_FAIL (s : State) (k : BitVec 3) : (s.noteFail k).FAIL = if s.FAIL = 0 then k else s.FAIL := rfl
@[simp] theorem State.noteFail_config (s : State) (k : BitVec 3) : (s.noteFail k).config = s.config := rfl
@[simp] theorem State.noteFail_words (s : State) (k : BitVec 3) : (s.noteFail k).words = s.words := rfl
@[simp] theorem State.noteFail_answers (s : State) (k : BitVec 3) : (s.noteFail k).answers = s.answers := rfl
@[simp] theorem State.noteFail_delays (s : State) (k : BitVec 3) : (s.noteFail k).delays = s.delays := rfl
@[simp] theorem State.noteFail_resets (s : State) (k : BitVec 3) : (s.noteFail k).resets = s.resets := rfl
@[simp] theorem State.noteFail_trace (s : State) (k : BitVec 3) : (s.noteFail k).trace = s.trace := rfl

@[simp] theorem State.refuseIllegal_OUT (s : State) (op : Nibble) : (s.refuseIllegal op).OUT = s.OUT := rfl
@[simp] theorem State.refuseIllegal_RAW (s : State) (op : Nibble) : (s.refuseIllegal op).RAW = s.RAW := rfl
@[simp] theorem State.refuseIllegal_SAVED (s : State) (op : Nibble) : (s.refuseIllegal op).SAVED = s.SAVED := rfl
@[simp] theorem State.refuseIllegal_STATUS (s : State) (op : Nibble) : (s.refuseIllegal op).STATUS = writeReport s.STATUS false false true 0 := rfl
@[simp] theorem State.refuseIllegal_LASTOP (s : State) (op : Nibble) : (s.refuseIllegal op).LASTOP = op := rfl
@[simp] theorem State.refuseIllegal_STEP (s : State) (op : Nibble) : (s.refuseIllegal op).STEP = s.STEP := rfl
@[simp] theorem State.refuseIllegal_CUR (s : State) (op : Nibble) : (s.refuseIllegal op).CUR = s.CUR := rfl
@[simp] theorem State.refuseIllegal_M8 (s : State) (op : Nibble) : (s.refuseIllegal op).M8 = s.M8 := rfl
@[simp] theorem State.refuseIllegal_B8 (s : State) (op : Nibble) : (s.refuseIllegal op).B8 = s.B8 := rfl
@[simp] theorem State.refuseIllegal_S8 (s : State) (op : Nibble) : (s.refuseIllegal op).S8 = s.S8 := rfl
@[simp] theorem State.refuseIllegal_OKACC (s : State) (op : Nibble) : (s.refuseIllegal op).OKACC = s.OKACC := rfl
@[simp] theorem State.refuseIllegal_FAIL (s : State) (op : Nibble) : (s.refuseIllegal op).FAIL = s.FAIL := rfl
@[simp] theorem State.refuseIllegal_config (s : State) (op : Nibble) : (s.refuseIllegal op).config = s.config := rfl
@[simp] theorem State.refuseIllegal_words (s : State) (op : Nibble) : (s.refuseIllegal op).words = s.words := rfl
@[simp] theorem State.refuseIllegal_answers (s : State) (op : Nibble) : (s.refuseIllegal op).answers = s.answers := rfl
@[simp] theorem State.refuseIllegal_delays (s : State) (op : Nibble) : (s.refuseIllegal op).delays = s.delays := rfl
@[simp] theorem State.refuseIllegal_resets (s : State) (op : Nibble) : (s.refuseIllegal op).resets = s.resets := rfl
@[simp] theorem State.refuseIllegal_trace (s : State) (op : Nibble) : (s.refuseIllegal op).trace = s.trace := rfl

@[simp] theorem State.putByte_OUT (s : State) : (s.putByte).OUT = zext16 s.B8 := rfl
@[simp] theorem State.putByte_RAW (s : State) : (s.putByte).RAW = zext16 s.B8 := rfl
@[simp] theorem State.putByte_SAVED (s : State) : (s.putByte).SAVED = s.SAVED := rfl
@[simp] theorem State.putByte_STATUS (s : State) : (s.putByte).STATUS = s.STATUS := rfl
@[simp] theorem State.putByte_LASTOP (s : State) : (s.putByte).LASTOP = s.LASTOP := rfl
@[simp] theorem State.putByte_STEP (s : State) : (s.putByte).STEP = s.STEP := rfl
@[simp] theorem State.putByte_CUR (s : State) : (s.putByte).CUR = s.CUR := rfl
@[simp] theorem State.putByte_M8 (s : State) : (s.putByte).M8 = s.M8 := rfl
@[simp] theorem State.putByte_B8 (s : State) : (s.putByte).B8 = s.B8 := rfl
@[simp] theorem State.putByte_S8 (s : State) : (s.putByte).S8 = s.S8 := rfl
@[simp] theorem State.putByte_OKACC (s : State) : (s.putByte).OKACC = s.OKACC := rfl
@[simp] theorem State.putByte_FAIL (s : State) : (s.putByte).FAIL = s.FAIL := rfl
@[simp] theorem State.putByte_config (s : State) : (s.putByte).config = s.config := rfl
@[simp] theorem State.putByte_words (s : State) : (s.putByte).words = s.words := rfl
@[simp] theorem State.putByte_answers (s : State) : (s.putByte).answers = s.answers := rfl
@[simp] theorem State.putByte_delays (s : State) : (s.putByte).delays = s.delays := rfl
@[simp] theorem State.putByte_resets (s : State) : (s.putByte).resets = s.resets := rfl
@[simp] theorem State.putByte_trace (s : State) : (s.putByte).trace = s.trace := rfl

@[simp] theorem State.reportAccesses_OUT (s : State) (p : Bool) : (s.reportAccesses p).OUT = s.OUT := rfl
@[simp] theorem State.reportAccesses_RAW (s : State) (p : Bool) : (s.reportAccesses p).RAW = s.RAW := rfl
@[simp] theorem State.reportAccesses_SAVED (s : State) (p : Bool) : (s.reportAccesses p).SAVED = s.SAVED := rfl
@[simp] theorem State.reportAccesses_STATUS (s : State) (p : Bool) : (s.reportAccesses p).STATUS = writeReport s.STATUS s.OKACC p false s.FAIL := rfl
@[simp] theorem State.reportAccesses_LASTOP (s : State) (p : Bool) : (s.reportAccesses p).LASTOP = s.LASTOP := rfl
@[simp] theorem State.reportAccesses_STEP (s : State) (p : Bool) : (s.reportAccesses p).STEP = s.STEP := rfl
@[simp] theorem State.reportAccesses_CUR (s : State) (p : Bool) : (s.reportAccesses p).CUR = s.CUR := rfl
@[simp] theorem State.reportAccesses_M8 (s : State) (p : Bool) : (s.reportAccesses p).M8 = s.M8 := rfl
@[simp] theorem State.reportAccesses_B8 (s : State) (p : Bool) : (s.reportAccesses p).B8 = s.B8 := rfl
@[simp] theorem State.reportAccesses_S8 (s : State) (p : Bool) : (s.reportAccesses p).S8 = s.S8 := rfl
@[simp] theorem State.reportAccesses_OKACC (s : State) (p : Bool) : (s.reportAccesses p).OKACC = s.OKACC := rfl
@[simp] theorem State.reportAccesses_FAIL (s : State) (p : Bool) : (s.reportAccesses p).FAIL = s.FAIL := rfl
@[simp] theorem State.reportAccesses_config (s : State) (p : Bool) : (s.reportAccesses p).config = s.config := rfl
@[simp] theorem State.reportAccesses_words (s : State) (p : Bool) : (s.reportAccesses p).words = s.words := rfl
@[simp] theorem State.reportAccesses_answers (s : State) (p : Bool) : (s.reportAccesses p).answers = s.answers := rfl
@[simp] theorem State.reportAccesses_delays (s : State) (p : Bool) : (s.reportAccesses p).delays = s.delays := rfl
@[simp] theorem State.reportAccesses_resets (s : State) (p : Bool) : (s.reportAccesses p).resets = s.resets := rfl
@[simp] theorem State.reportAccesses_trace (s : State) (p : Bool) : (s.reportAccesses p).trace = s.trace := rfl

@[simp] theorem State.putCode_OUT (s : State) (w : Word) : (s.putCode w).OUT = w := rfl
@[simp] theorem State.putCode_RAW (s : State) (w : Word) : (s.putCode w).RAW = s.code := rfl
@[simp] theorem State.putCode_SAVED (s : State) (w : Word) : (s.putCode w).SAVED = s.SAVED := rfl
@[simp] theorem State.putCode_STATUS (s : State) (w : Word) : (s.putCode w).STATUS = writeReport s.STATUS s.OKACC false false s.FAIL := rfl
@[simp] theorem State.putCode_LASTOP (s : State) (w : Word) : (s.putCode w).LASTOP = s.LASTOP := rfl
@[simp] theorem State.putCode_STEP (s : State) (w : Word) : (s.putCode w).STEP = s.STEP := rfl
@[simp] theorem State.putCode_CUR (s : State) (w : Word) : (s.putCode w).CUR = s.CUR := rfl
@[simp] theorem State.putCode_M8 (s : State) (w : Word) : (s.putCode w).M8 = s.M8 := rfl
@[simp] theorem State.putCode_B8 (s : State) (w : Word) : (s.putCode w).B8 = s.B8 := rfl
@[simp] theorem State.putCode_S8 (s : State) (w : Word) : (s.putCode w).S8 = s.S8 := rfl
@[simp] theorem State.putCode_OKACC (s : State) (w : Word) : (s.putCode w).OKACC = s.OKACC := rfl
@[simp] theorem State.putCode_FAIL (s : State) (w : Word) : (s.putCode w).FAIL = s.FAIL := rfl
@[simp] theorem State.putCode_config (s : State) (w : Word) : (s.putCode w).config = s.config := rfl
@[simp] theorem State.putCode_words (s : State) (w : Word) : (s.putCode w).words = s.words := rfl
@[simp] theorem State.putCode_answers (s : State) (w : Word) : (s.putCode w).answers = s.answers := rfl
@[simp] theorem State.putCode_delays (s : State) (w : Word) : (s.putCode w).delays = s.delays := rfl
@[simp] theorem State.putCode_resets (s : State) (w : Word) : (s.putCode w).resets = s.resets := rfl
@[simp] theorem State.putCode_trace (s : State) (w : Word) : (s.putCode w).trace = s.trace := rfl

@[simp] theorem State.blockReset_OUT (s : State) : s.blockReset.OUT = 0 := rfl
@[simp] theorem State.blockReset_RAW (s : State) : s.blockReset.RAW = 0 := rfl
@[simp] theorem State.blockReset_SAVED (s : State) : s.blockReset.SAVED = 0 := rfl
@[simp] theorem State.blockReset_STATUS (s : State) : s.blockReset.STATUS = 0 := rfl
@[simp] theorem State.blockReset_LASTOP (s : State) : s.blockReset.LASTOP = 0 := rfl
@[simp] theorem State.blockReset_STEP (s : State) : s.blockReset.STEP = 0 := rfl
@[simp] theorem State.blockReset_CUR (s : State) : s.blockReset.CUR = { op := 0, a := 0, d := 0 } := rfl
@[simp] theorem State.blockReset_M8 (s : State) : s.blockReset.M8 = 0 := rfl
@[simp] theorem State.blockReset_B8 (s : State) : s.blockReset.B8 = 0 := rfl
@[simp] theorem State.blockReset_S8 (s : State) : s.blockReset.S8 = 0 := rfl
@[simp] theorem State.blockReset_OKACC (s : State) : s.blockReset.OKACC = true := rfl
@[simp] theorem State.blockReset_FAIL (s : State) : s.blockReset.FAIL = 0 := rfl
@[simp] theorem State.blockReset_config (s : State) : s.blockReset.config = s.config := rfl
@[simp] theorem State.blockReset_words (s : State) : s.blockReset.words = s.words := rfl
@[simp] theorem State.blockReset_answers (s : State) : s.blockReset.answers = s.answers := rfl
@[simp] theorem State.blockReset_delays (s : State) : s.blockReset.delays = s.delays := rfl
@[simp] theorem State.blockReset_resets (s : State) : s.blockReset.resets = s.resets := rfl
@[simp] theorem State.blockReset_trace (s : State) : s.blockReset.trace = s.trace := rfl

@[simp] theorem State.reportByPolicy_OUT (s : State) : s.reportByPolicy.OUT = s.OUT := by
  unfold State.reportByPolicy; cases s.config.seqPolicy <;> rfl
@[simp] theorem State.reportByPolicy_RAW (s : State) : s.reportByPolicy.RAW = s.RAW := by
  unfold State.reportByPolicy; cases s.config.seqPolicy <;> rfl
@[simp] theorem State.reportByPolicy_SAVED (s : State) : s.reportByPolicy.SAVED = s.SAVED := by
  unfold State.reportByPolicy; cases s.config.seqPolicy <;> rfl
@[simp] theorem State.reportByPolicy_STATUS (s : State) : s.reportByPolicy.STATUS =
    writeReport s.STATUS (s.config.seqPolicy == .fireAndForget || s.OKACC) false false
      (if s.config.seqPolicy = .fireAndForget then 0 else s.FAIL) := by
  unfold State.reportByPolicy; cases s.config.seqPolicy <;> rfl
@[simp] theorem State.reportByPolicy_LASTOP (s : State) : s.reportByPolicy.LASTOP = s.LASTOP := by
  unfold State.reportByPolicy; cases s.config.seqPolicy <;> rfl
@[simp] theorem State.reportByPolicy_STEP (s : State) : s.reportByPolicy.STEP = s.STEP := by
  unfold State.reportByPolicy; cases s.config.seqPolicy <;> rfl
@[simp] theorem State.reportByPolicy_CUR (s : State) : s.reportByPolicy.CUR = s.CUR := by
  unfold State.reportByPolicy; cases s.config.seqPolicy <;> rfl
@[simp] theorem State.reportByPolicy_M8 (s : State) : s.reportByPolicy.M8 = s.M8 := by
  unfold State.reportByPolicy; cases s.config.seqPolicy <;> rfl
@[simp] theorem State.reportByPolicy_B8 (s : State) : s.reportByPolicy.B8 = s.B8 := by
  unfold State.reportByPolicy; cases s.config.seqPolicy <;> rfl
@[simp] theorem State.reportByPolicy_S8 (s : State) : s.reportByPolicy.S8 = s.S8 := by
  unfold State.reportByPolicy; cases s.config.seqPolicy <;> rfl
@[simp] theorem State.reportByPolicy_OKACC (s : State) : s.reportByPolicy.OKACC = s.OKACC := by
  unfold State.reportByPolicy; cases s.config.seqPolicy <;> rfl
@[simp] theorem State.reportByPolicy_FAIL (s : State) : s.reportByPolicy.FAIL = s.FAIL := by
  unfold State.reportByPolicy; cases s.config.seqPolicy <;> rfl
@[simp] theorem State.reportByPolicy_config (s : State) : s.reportByPolicy.config = s.config := by
  unfold State.reportByPolicy; cases s.config.seqPolicy <;> rfl
@[simp] theorem State.reportByPolicy_words (s : State) : s.reportByPolicy.words = s.words := by
  unfold State.reportByPolicy; cases s.config.seqPolicy <;> rfl
@[simp] theorem State.reportByPolicy_answers (s : State) : s.reportByPolicy.answers = s.answers := by
  unfold State.reportByPolicy; cases s.config.seqPolicy <;> rfl
@[simp] theorem State.reportByPolicy_delays (s : State) : s.reportByPolicy.delays = s.delays := by
  unfold State.reportByPolicy; cases s.config.seqPolicy <;> rfl
@[simp] theorem State.reportByPolicy_resets (s : State) : s.reportByPolicy.resets = s.resets := by
  unfold State.reportByPolicy; cases s.config.seqPolicy <;> rfl
@[simp] theorem State.reportByPolicy_trace (s : State) : s.reportByPolicy.trace = s.trace := by
  unfold State.reportByPolicy; cases s.config.seqPolicy <;> rfl

@[simp] theorem State.latchByte_OUT (s : State) (l : Latch) (b : Byte) :
    (s.latchByte l b).OUT = s.OUT := by cases l <;> rfl
@[simp] theorem State.latchByte_RAW (s : State) (l : Latch) (b : Byte) :
    (s.latchByte l b).RAW = s.RAW := by cases l <;> rfl
@[simp] theorem State.latchByte_SAVED (s : State) (l : Latch) (b : Byte) :
    (s.latchByte l b).SAVED = s.SAVED := by cases l <;> rfl
@[simp] theorem State.latchByte_STATUS (s : State) (l : Latch) (b : Byte) :
    (s.latchByte l b).STATUS = s.STATUS := by cases l <;> rfl
@[simp] theorem State.latchByte_LASTOP (s : State) (l : Latch) (b : Byte) :
    (s.latchByte l b).LASTOP = s.LASTOP := by cases l <;> rfl
@[simp] theorem State.latchByte_STEP (s : State) (l : Latch) (b : Byte) :
    (s.latchByte l b).STEP = s.STEP := by cases l <;> rfl
@[simp] theorem State.latchByte_CUR (s : State) (l : Latch) (b : Byte) :
    (s.latchByte l b).CUR = s.CUR := by cases l <;> rfl
@[simp] theorem State.latchByte_M8 (s : State) (l : Latch) (b : Byte) :
    (s.latchByte l b).M8 = if l = .m8 then b else s.M8 := by cases l <;> rfl
@[simp] theorem State.latchByte_B8 (s : State) (l : Latch) (b : Byte) :
    (s.latchByte l b).B8 = b := by cases l <;> rfl
@[simp] theorem State.latchByte_S8 (s : State) (l : Latch) (b : Byte) :
    (s.latchByte l b).S8 = if l = .s8 then b else s.S8 := by cases l <;> rfl
@[simp] theorem State.latchByte_OKACC (s : State) (l : Latch) (b : Byte) :
    (s.latchByte l b).OKACC = s.OKACC := by cases l <;> rfl
@[simp] theorem State.latchByte_FAIL (s : State) (l : Latch) (b : Byte) :
    (s.latchByte l b).FAIL = s.FAIL := by cases l <;> rfl
@[simp] theorem State.latchByte_config (s : State) (l : Latch) (b : Byte) :
    (s.latchByte l b).config = s.config := by cases l <;> rfl
@[simp] theorem State.latchByte_words (s : State) (l : Latch) (b : Byte) :
    (s.latchByte l b).words = s.words := by cases l <;> rfl
@[simp] theorem State.latchByte_answers (s : State) (l : Latch) (b : Byte) :
    (s.latchByte l b).answers = s.answers := by cases l <;> rfl
@[simp] theorem State.latchByte_delays (s : State) (l : Latch) (b : Byte) :
    (s.latchByte l b).delays = s.delays := by cases l <;> rfl
@[simp] theorem State.latchByte_resets (s : State) (l : Latch) (b : Byte) :
    (s.latchByte l b).resets = s.resets := by cases l <;> rfl
@[simp] theorem State.latchByte_trace (s : State) (l : Latch) (b : Byte) :
    (s.latchByte l b).trace = s.trace := by cases l <;> rfl

@[simp] theorem noteOutcome_OUT (ok : Bool) (k : BitVec 3) (s : State) :
    (noteOutcome ok k s).OUT = s.OUT := by cases ok <;> rfl
@[simp] theorem noteOutcome_RAW (ok : Bool) (k : BitVec 3) (s : State) :
    (noteOutcome ok k s).RAW = s.RAW := by cases ok <;> rfl
@[simp] theorem noteOutcome_SAVED (ok : Bool) (k : BitVec 3) (s : State) :
    (noteOutcome ok k s).SAVED = s.SAVED := by cases ok <;> rfl
@[simp] theorem noteOutcome_STATUS (ok : Bool) (k : BitVec 3) (s : State) :
    (noteOutcome ok k s).STATUS = s.STATUS := by cases ok <;> rfl
@[simp] theorem noteOutcome_LASTOP (ok : Bool) (k : BitVec 3) (s : State) :
    (noteOutcome ok k s).LASTOP = s.LASTOP := by cases ok <;> rfl
@[simp] theorem noteOutcome_STEP (ok : Bool) (k : BitVec 3) (s : State) :
    (noteOutcome ok k s).STEP = s.STEP := by cases ok <;> rfl
@[simp] theorem noteOutcome_CUR (ok : Bool) (k : BitVec 3) (s : State) :
    (noteOutcome ok k s).CUR = s.CUR := by cases ok <;> rfl
@[simp] theorem noteOutcome_M8 (ok : Bool) (k : BitVec 3) (s : State) :
    (noteOutcome ok k s).M8 = s.M8 := by cases ok <;> rfl
@[simp] theorem noteOutcome_B8 (ok : Bool) (k : BitVec 3) (s : State) :
    (noteOutcome ok k s).B8 = s.B8 := by cases ok <;> rfl
@[simp] theorem noteOutcome_S8 (ok : Bool) (k : BitVec 3) (s : State) :
    (noteOutcome ok k s).S8 = s.S8 := by cases ok <;> rfl
@[simp] theorem noteOutcome_OKACC (ok : Bool) (k : BitVec 3) (s : State) :
    (noteOutcome ok k s).OKACC = (s.OKACC && ok) := by cases ok <;> simp [noteOutcome]
@[simp] theorem noteOutcome_FAIL (ok : Bool) (k : BitVec 3) (s : State) :
    (noteOutcome ok k s).FAIL = if ok = false ∧ s.FAIL = 0 then k else s.FAIL := by cases ok <;> simp [noteOutcome]
@[simp] theorem noteOutcome_config (ok : Bool) (k : BitVec 3) (s : State) :
    (noteOutcome ok k s).config = s.config := by cases ok <;> rfl
@[simp] theorem noteOutcome_words (ok : Bool) (k : BitVec 3) (s : State) :
    (noteOutcome ok k s).words = s.words := by cases ok <;> rfl
@[simp] theorem noteOutcome_answers (ok : Bool) (k : BitVec 3) (s : State) :
    (noteOutcome ok k s).answers = s.answers := by cases ok <;> rfl
@[simp] theorem noteOutcome_delays (ok : Bool) (k : BitVec 3) (s : State) :
    (noteOutcome ok k s).delays = s.delays := by cases ok <;> rfl
@[simp] theorem noteOutcome_resets (ok : Bool) (k : BitVec 3) (s : State) :
    (noteOutcome ok k s).resets = s.resets := by cases ok <;> rfl
@[simp] theorem noteOutcome_trace (ok : Bool) (k : BitVec 3) (s : State) :
    (noteOutcome ok k s).trace = s.trace := by cases ok <;> rfl

@[simp] theorem State.accept_busy (s : State) (f : CmdFields) : (s.accept f).busy = true := by
  exact statusBusy_writeBusy s.STATUS true

end Sys2Proof.Machine
end

