-- ==== Sys2Proof/Laws/Engine.lean ====
section
/-! SUPPORT. Everything a bus primitive, a micro-operation, an engine step, a command and a step can do,
said once for each. -/

namespace Sys2Proof.Machine

/-- Every command is `runCommand` over its own micro-program and commit (40_engine.md R101, R103, R109). -/
theorem exec_eq_runCommand (i : Instr) (s : State) :
    exec i s = runCommand i.fields (prog s.config i) (commit i) s := by
  cases i <;> rfl

/-- A command met by an idle block is accepted. -/
theorem exec_of_idle (i : Instr) {s : State} (h : s.Idle) : exec i s = .next (s.accept i.fields) := by
  simp [exec_eq_runCommand, runCommand, h]

/-- A running command takes an engine step. -/
theorem exec_of_running {i : Instr} {s : State} (h : s.Running i) :
    exec i s = engineStep (prog s.config i) (commit i) s := by
  simp [exec_eq_runCommand, runCommand, h.1, h.2]

/-- A read with an answer. -/
theorem runMicroOp_rd {s : State} {ans : Answer} {rest : List Answer} (k : BitVec 3) (a : Byte)
    (l : Latch) (h : s.answers = ans :: rest) :
    runMicroOp (.rd k a l) s = some (noteOutcome ans.ok k
      (({ s with answers := rest, trace := s.trace ++ [readEvent s.config a ans] } : State).latchByte l
        ans.byte)) := by
  simp [runMicroOp, memRead, exchange, h, readEvent, Answer.byte]

/-- A write with an answer. -/
theorem runMicroOp_wr {s : State} {ans : Answer} {rest : List Answer} (k : BitVec 3) (a : Byte)
    (e : WriteExpr) (h : s.answers = ans :: rest) :
    runMicroOp (.wr k a e) s = some (noteOutcome ans.ok k
      { s with answers := rest, trace := s.trace ++ [writeEvent s.config a (e.eval s) ans] }) := by
  simp [runMicroOp, memWrite, exchange, h, writeEvent]

/-- A delay that completes. -/
theorem runMicroOp_dly {s : State} {n : Nat} (us : Nat) (h : s.delays = n + 1) :
    runMicroOp (.dly us) s = some { s with delays := n, trace := s.trace ++ [.delay us] } := by
  simp [runMicroOp, delay, h]

/-- Does the environment answer the micro-operation (40_engine.md R112)? -/
def answered (m : MicroOp) (s : State) : Prop :=
  match m with
  | .rd _ _ _ => s.answers ≠ []
  | .wr _ _ _ => s.answers ≠ []
  | .dly _ => s.delays ≠ 0

/-- A micro-operation waits exactly when the environment does not answer it. -/
theorem runMicroOp_eq_none_iff (m : MicroOp) (s : State) : runMicroOp m s = none ↔ ¬ answered m s := by
  cases m with
  | rd k a l =>
    rcases h : s.answers with _ | ⟨ans, rest⟩
    · simp [runMicroOp, memRead, exchange, h, answered]
    · simp [runMicroOp_rd k a l h, h, answered]
  | wr k a e =>
    rcases h : s.answers with _ | ⟨ans, rest⟩
    · simp [runMicroOp, memWrite, exchange, h, answered]
    · simp [runMicroOp_wr k a e h, h, answered]
  | dly us =>
    rcases h : s.delays with _ | n
    · simp [runMicroOp, delay, h, answered]
    · simp [runMicroOp_dly us h, h, answered]

/-- What an answered micro-operation leaves as it was: every host-visible register, `CUR`, `STEP`, the
configuration, the words and the resets. -/
structure Untouched (s t : State) : Prop where
  OUT : t.OUT = s.OUT
  RAW : t.RAW = s.RAW
  SAVED : t.SAVED = s.SAVED
  STATUS : t.STATUS = s.STATUS
  LASTOP : t.LASTOP = s.LASTOP
  STEP : t.STEP = s.STEP
  CUR : t.CUR = s.CUR
  config : t.config = s.config
  words : t.words = s.words
  resets : t.resets = s.resets

/-- Everything an answered micro-operation can do (40_engine.md R105 to R107). -/
theorem runMicroOp_cases {m : MicroOp} {s t : State} (h : runMicroOp m s = some t) :
    Untouched s t ∧
    ((∃ k a l ans rest, m = .rd k a l ∧ s.answers = ans :: rest ∧
        t = noteOutcome ans.ok k (({ s with
          answers := rest, trace := s.trace ++ [readEvent s.config a ans] } : State).latchByte l
            ans.byte)) ∨
     (∃ k a e ans rest, m = .wr k a e ∧ s.answers = ans :: rest ∧
        t = noteOutcome ans.ok k { s with
          answers := rest, trace := s.trace ++ [writeEvent s.config a (e.eval s) ans] }) ∨
     (∃ us n, m = .dly us ∧ s.delays = n + 1 ∧
        t = { s with delays := n, trace := s.trace ++ [.delay us] })) := by
  cases m with
  | rd k a l =>
    rcases ha : s.answers with _ | ⟨ans, rest⟩
    · simp [runMicroOp, memRead, exchange, ha] at h
    · rw [runMicroOp_rd k a l ha, Option.some.injEq] at h
      subst h
      exact ⟨by constructor <;> simp, .inl ⟨k, a, l, ans, rest, rfl, rfl, rfl⟩⟩
  | wr k a e =>
    rcases ha : s.answers with _ | ⟨ans, rest⟩
    · simp [runMicroOp, memWrite, exchange, ha] at h
    · rw [runMicroOp_wr k a e ha, Option.some.injEq] at h
      subst h
      exact ⟨by constructor <;> simp, .inr (.inl ⟨k, a, e, ans, rest, rfl, rfl, rfl⟩)⟩
  | dly us =>
    rcases hd : s.delays with _ | n
    · simp [runMicroOp, delay, hd] at h
    · rw [runMicroOp_dly us hd, Option.some.injEq] at h
      subst h
      exact ⟨by constructor <;> rfl, .inr (.inr ⟨us, n, rfl, rfl, rfl⟩)⟩

/-- Does the command complete after the micro-operation `m` has left `t` (40_engine.md R108, R112)? -/
def completes (prog : List MicroOp) (m : MicroOp) (t : State) : Bool :=
  (m.isDelay && t.aborting) || t.STEP == prog.length

/-- Everything an engine step that answers a state can do (40_engine.md R112): wait, go on to the next
micro-operation, or complete. -/
theorem engineStep_cases {p : List MicroOp} {c : State → State} {s t : State}
    (h : engineStep p c s = .next t) :
    ∃ m, p[s.STEP]? = some m ∧
      ((runMicroOp m s = none ∧ t = s) ∨
       (∃ ran, runMicroOp m s = some ran ∧
         ((completes p m ran.advance = false ∧ t = ran.advance) ∨
          (completes p m ran.advance = true ∧ t = (c ran.advance).finish)))) := by
  unfold engineStep at h
  split at h
  · cases h
  · rename_i m hm
    refine ⟨m, hm, ?_⟩
    split at h
    · rename_i hr
      cases h
      exact .inl ⟨hr, rfl⟩
    · rename_i ran hr
      refine .inr ⟨ran, hr, ?_⟩
      simp only at h
      split at h
      · rename_i hc
        cases h
        exact .inr ⟨hc, rfl⟩
      · rename_i hc
        cases h
        exact .inl ⟨by simpa [completes] using hc, rfl⟩

/-- An engine step with an answered micro-operation, computed. -/
theorem engineStep_of_answered {p : List MicroOp} {c : State → State} {s ran : State} {m : MicroOp}
    (hm : p[s.STEP]? = some m) (hr : runMicroOp m s = some ran) :
    engineStep p c s =
      if completes p m ran.advance then .next (c ran.advance).finish else .next ran.advance := by
  simp [engineStep, hm, hr, completes]

/-- An engine step whose micro-operation is not answered. -/
theorem engineStep_of_unanswered {p : List MicroOp} {c : State → State} {s : State} {m : MicroOp}
    (hm : p[s.STEP]? = some m) (hr : runMicroOp m s = none) : engineStep p c s = .next s := by
  simp [engineStep, hm, hr]

/-- Everything a command's meaning that answers a state can do: accept, leave another command alone, or
take an engine step. -/
theorem exec_cases {i : Instr} {s t : State} (h : exec i s = .next t) :
    (s.Idle ∧ t = s.accept i.fields) ∨ (s.busy = true ∧ s.CUR ≠ i.fields ∧ t = s) ∨
    (s.Running i ∧ engineStep (prog s.config i) (commit i) s = .next t) := by
  rw [exec_eq_runCommand] at h
  unfold runCommand at h
  split at h
  · rename_i hb
    split at h
    · rename_i hc
      exact .inr (.inr ⟨⟨hb, hc⟩, h⟩)
    · rename_i hc
      cases h
      exact .inr (.inl ⟨hb, hc, rfl⟩)
  · rename_i hb
    cases h
    exact .inl ⟨by simpa using hb, rfl⟩

/-- Everything a step without a due reset that answers a state can do: nothing, accept a word, refuse one,
or run the command in `CUR` (40_engine.md R100 to R102, R112). -/
theorem stepBlock_cases {s t : State} (h : stepBlock s = .next t) :
    (s.Idle ∧ s.words = [] ∧ t = s) ∨
    (∃ w rest i, s.Idle ∧ s.words = w :: rest ∧ decode w = .legal i ∧
      t = ({ s with words := rest } : State).accept i.fields) ∨
    (∃ w rest op, s.Idle ∧ s.words = w :: rest ∧ decode w = .illegal op ∧
      t = ({ s with words := rest } : State).refuseIllegal op) ∨
    (∃ i, s.busy = true ∧ decode (fieldsWord s.CUR) = .legal i ∧ exec i s = .next t) := by
  unfold stepBlock at h
  split at h
  · rename_i hb
    split at h
    · rename_i i hd
      exact .inr (.inr (.inr ⟨i, hb, hd, h⟩))
    · cases h
  · rename_i hb
    have hb : s.Idle := by simpa using hb
    split at h
    · rename_i hw
      cases h
      exact .inl ⟨hb, hw, rfl⟩
    · rename_i w rest hw
      split at h
      · rename_i i hd
        rw [exec_of_idle i (show State.Idle { s with words := rest } from hb)] at h
        cases h
        exact .inr (.inl ⟨w, rest, i, hb, hw, hd, rfl⟩)
      · rename_i op hd
        cases h
        exact .inr (.inr (.inl ⟨w, rest, op, hb, hw, hd, rfl⟩))

/-- Everything a step that answers a state can do: reset the block, or take the block's step from the
state whose count to the next reset has fallen (70_reset_and_hazards.md R230). -/
theorem step_cases {s t : State} (h : step s = .next t) :
    (∃ rest, s.resets = 0 :: rest ∧ t = ({ s with resets := rest } : State).blockReset) ∨
    (∃ rs, s.NoResetDue ∧ stepBlock { s with resets := rs } = .next t) := by
  unfold step at h
  split at h
  · rename_i hr
    refine .inr ⟨[], by simp [State.NoResetDue, hr], ?_⟩
    rw [← hr]
    exact h
  · rename_i rest hr
    cases h
    exact .inl ⟨rest, hr, rfl⟩
  · rename_i n rest hr
    exact .inr ⟨n :: rest, by simp [State.NoResetDue, hr], h⟩

/-- With no reset to come, a step is the block's step. -/
theorem step_of_no_resets {s : State} (h : s.resets = []) : step s = stepBlock s := by
  simp [step, h]

/-- With no reset due, a step is the block's step, and the count to the next reset has fallen. -/
theorem step_of_resetsLater {s : State} {later : List Nat} (h : s.ResetsLater later) :
    step s = stepBlock { s with resets := later } := by
  rcases h with ⟨hr, rfl⟩ | ⟨n, rest, hr, rfl⟩
  · rw [step_of_no_resets hr, ← hr]
  · unfold step
    rw [hr]

/-- A busy block runs the command in `CUR`. -/
theorem stepBlock_of_busy {s : State} {i : Instr} (hb : s.busy = true)
    (hd : decode (fieldsWord s.CUR) = .legal i) : stepBlock s = exec i s := by
  unfold stepBlock
  rw [if_pos hb, hd]

/-- An idle block whose port holds a legal word meets its command. -/
theorem stepBlock_of_word {s : State} {w : Word} {ws : List Word} {i : Instr} (hi : s.Idle)
    (hw : s.words = w :: ws) (hd : decode w = .legal i) :
    stepBlock s = exec i { s with words := ws } := by
  unfold stepBlock
  rw [if_neg (by rw [hi]; decide)]
  simp only [hw, hd]

/-- An idle block whose port holds an illegal word refuses it (60_exceptions.md R201). -/
theorem stepBlock_of_illegal {s : State} {w : Word} {ws : List Word} {op : Nibble} (hi : s.Idle)
    (hw : s.words = w :: ws) (hd : decode w = .illegal op) :
    stepBlock s = .next (({ s with words := ws } : State).refuseIllegal op) := by
  unfold stepBlock
  rw [if_neg (by rw [hi]; decide)]
  simp only [hw, hd]

/-- An idle block whose port holds no word does nothing (40_engine.md R100). -/
theorem stepBlock_of_no_word {s : State} (hi : s.Idle) (hw : s.words = []) : stepBlock s = .next s := by
  unfold stepBlock
  rw [if_neg (by rw [hi]; decide)]
  simp only [hw]

/-- No steps. -/
@[simp] theorem run_zero (s : State) : run 0 s = .next s := rfl

/-- One step, then the rest of the run. -/
theorem run_succ {s t : State} (n : Nat) (h : step s = .next t) : run (n + 1) s = run n t := by
  have h' : Sys2Proof.core.step s = .next t := h
  simp only [run, Host.Core.run]
  rw [h']

/-- A state that steps to itself stays itself. -/
theorem run_of_step_self {s : State} (h : step s = .next s) (n : Nat) : run n s = .next s := by
  induction n with
  | zero => rfl
  | succ n ih => exact (run_succ n h).trans ih

/-- The kinds of a micro-program's operations: access, delay, access, delay, ... (40_engine.md R103). -/
theorem prog_kinds (c : Config) (i : Instr) : (prog c i).map MicroOp.isDelay =
    (List.range (prog c i).length).map (fun n => decide (n % 2 = 1)) := by
  cases i <;>
    simp [prog, progRdreg, progWrreg, progReadid, progInit, progRstq, progDecq, progDecv, progDect,
      progDecvs, progDects, progPair, MicroOp.isDelay, List.range_succ]

/-- A delay stands exactly at each odd index of a micro-program (40_engine.md R103). -/
theorem prog_isDelay_iff_odd {c : Config} {i : Instr} {n : Nat} {m : MicroOp}
    (h : (prog c i)[n]? = some m) : m.isDelay = decide (n % 2 = 1) := by
  obtain ⟨hn, rfl⟩ := List.getElem?_eq_some_iff.mp h
  have hk := congrArg (fun l => l[n]?) (prog_kinds c i)
  simpa [List.getElem?_map, hn] using hk

/-- A micro-program's length is even, so an access is never its last operation, positive, and at most
RSTQ's (40_engine.md R103, R114). -/
theorem prog_length (c : Config) (i : Instr) :
    (prog c i).length % 2 = 0 ∧ 0 < (prog c i).length ∧ (prog c i).length ≤ 10 := by
  cases i <;>
    simp [prog, progRdreg, progWrreg, progReadid, progInit, progRstq, progDecq, progDecv, progDect,
      progDecvs, progDects, progPair]

/-- Access numbers are 1 to 5, and every register address is one of the sixteen (40_engine.md R103,
20_memory.md R61). -/
theorem prog_access_bounds {c : Config} {i : Instr} {m : MicroOp} (h : m ∈ prog c i) :
    (∀ k, m.number = some k → k ≠ 0 ∧ k.toNat ≤ 5) ∧ (∀ a, m.addr = some a → a.toNat < 16) := by
  revert m
  cases i <;>
    simp [prog, progRdreg, progWrreg, progReadid, progInit, progRstq, progDecq, progDecv, progDect,
      progDecvs, progDects, progPair, MicroOp.number, MicroOp.addr, regAddr, aStatus, aCtrl, aQmsb, aQlsb,
      aVmsb, aVlsb, aTmsb, aTlsb] <;>
    omega

/-- What every commit keeps: everything but the host-visible results (40_engine.md R109). -/
theorem commit_keeps (i : Instr) (s : State) :
    (commit i s).LASTOP = s.LASTOP ∧ (commit i s).STEP = s.STEP ∧ (commit i s).CUR = s.CUR ∧
    (commit i s).M8 = s.M8 ∧ (commit i s).B8 = s.B8 ∧ (commit i s).S8 = s.S8 ∧
    (commit i s).OKACC = s.OKACC ∧ (commit i s).FAIL = s.FAIL ∧ (commit i s).config = s.config ∧
    (commit i s).words = s.words ∧ (commit i s).answers = s.answers ∧
    (commit i s).delays = s.delays ∧ (commit i s).resets = s.resets ∧
    (commit i s).trace = s.trace := by
  cases i <;>
    simp [commit, commitRdreg, commitWrreg, commitReadid, commitInit, commitRstq, commitDecq,
      commitDecv, commitDect, commitDecvs, commitDects]

end Sys2Proof.Machine
end

