-- ==== Sys2Proof/Laws/PerInstr.lean ====
section
/-! SUPPORT. Statements about every instruction as syntax, one lemma for each constructor. -/

namespace Sys2Proof.Laws.FieldsLegal

/-- The fields of every command pass the check of 30_encoding.md R84. -/
def Statement (i : Instr) : Prop := i.fields.wf = true

theorem rdreg (a : Nibble) : Statement (.rdreg a) := by simp [Statement, Instr.fields, CmdFields.wf]
theorem wrreg (a : Nibble) (d : Byte) : Statement (.wrreg a d) := by
  simp [Statement, Instr.fields, CmdFields.wf]
theorem readid : Statement .readid := by unfold Statement; decide
theorem init : Statement .init := by unfold Statement; decide
theorem rstq : Statement .rstq := by unfold Statement; decide
theorem decq : Statement .decq := by unfold Statement; decide
theorem decv : Statement .decv := by unfold Statement; decide
theorem dect : Statement .dect := by unfold Statement; decide
theorem decvs : Statement .decvs := by unfold Statement; decide
theorem dects : Statement .dects := by unfold Statement; decide

end Sys2Proof.Laws.FieldsLegal
end

