-- ==== Sys2Proof/Tests/Slice0.lean ====
section
/-! SUPPORT. Tests of the model, their expected values taken from the spec (the vector's name, or the rule
it is worked out from by hand, stands above each group), and for each statement with hypotheses a witness
that meets them. -/

namespace Sys2Proof.Tests
open Sys2Proof Sys2Proof.Machine

/-! ## Helpers -/

/-- The built parameters with a number for each of the two open durations. -/
def config : Config := { Config.built with gapUs := 1000, initUs := 10000 }

/-- `config` under the other failure policy. -/
def aborting : Config := { config with seqPolicy := .abortAndReport }

/-- A fresh block that meets the words `ws` and the answers `as`, with five delays to come. -/
def bench (c : Config) (ws : List Word) (as : List Answer) : State :=
  { State.reset with config := c, words := ws, answers := as, delays := 5 }

/-- Command `i` executing at `STEP = n`, with the latches given and `fail` the first failed access. -/
def running (c : Config) (i : Instr) (n : Nat) (as : List Answer) (m b v : Byte) (fail : BitVec 3) : State :=
  { bench c [] as with
    CUR := i.fields, STATUS := 0x80, STEP := n, M8 := m, B8 := b, S8 := v, OKACC := fail == 0
    FAIL := fail }

/-- A successful answer. -/
def good (b : Byte) : Answer := { ok := true, rx := b }

/-- A failed answer, with a stray byte in the receive buffer. -/
def bad : Answer := { ok := false, rx := 0xEE }

/-- The state of a step that goes on. -/
def after (o : Host.Outcome State Fault Refusal) : Option State :=
  match o with
  | .next t => some t
  | .fault _ => none
  | .refused _ => none

/-- What the host reads after it: `OUT`, `RAW`, `SAVED`, `STATUS`, `LASTOP`. -/
def host (o : Host.Outcome State Fault Refusal) : Option HostView := (after o).map State.hostView

/-- The bus events so far. -/
def bus (o : Host.Outcome State Fault Refusal) : Option (List BusEvent) := (after o).map State.trace

/-! ## Well-formedness: each check refuses a term -/

theorem test_opcode_0_refused : ({ op := 0x0, a := 0, d := 0 } : CmdFields).wf = false := by decide
theorem test_opcode_B_refused : ({ op := 0xB, a := 0, d := 0 } : CmdFields).wf = false := by decide
theorem test_rdreg_with_d_refused : ({ op := 0x1, a := 1, d := 1 } : CmdFields).wf = false := by decide
theorem test_readid_with_a_refused : ({ op := 0x3, a := 1, d := 0 } : CmdFields).wf = false := by decide
theorem test_dects_with_d_refused : ({ op := 0xA, a := 0, d := 0x80 } : CmdFields).wf = false := by
  decide
theorem test_wrreg_uses_every_field : ({ op := 0x2, a := 15, d := 0xFF } : CmdFields).wf = true := by
  decide
theorem test_settle_shorter_than_gap_refused :
    ({ config with initUs := 999 } : Config).wf = false := by decide
theorem test_zero_full_scale_refused : ({ config with codeFs := 0 } : Config).wf = false := by decide
theorem test_temperature_above_s16_refused :
    ({ config with tfsCk := 60083 } : Config).wf = false := by decide
theorem test_temperature_below_s16_refused :
    ({ config with toffCk := 32769 } : Config).wf = false := by decide
theorem test_config_is_well_formed : config.wf = true ∧ aborting.wf = true := by decide

/-! ## Encoding: words written from R81 and R82, `OP` in bits 15:12, `A` in 11:8, `D` in 7:0 -/

theorem test_decode_rdreg : decode 0b0001_1111_00000000 = .legal (.rdreg 15) := by decide
theorem test_decode_wrreg : decode 0b0010_0001_11010010 = .legal (.wrreg 1 0xD2) := by decide
theorem test_decode_readid : decode 0b0011_0000_00000000 = .legal .readid := by decide
theorem test_decode_init : decode 0b0100_0000_00000000 = .legal .init := by decide
theorem test_decode_rstq : decode 0b0101_0000_00000000 = .legal .rstq := by decide
theorem test_decode_decq : decode 0b0110_0000_00000000 = .legal .decq := by decide
theorem test_decode_decv : decode 0b0111_0000_00000000 = .legal .decv := by decide
theorem test_decode_dect : decode 0b1000_0000_00000000 = .legal .dect := by decide
theorem test_decode_decvs : decode 0b1001_0000_00000000 = .legal .decvs := by decide
theorem test_decode_dects : decode 0b1010_0000_00000000 = .legal .dects := by decide
/-- L2-E3, L2-E7, L2-E9 to L2-E11. -/
theorem test_decode_illegal :
    [0x1001, 0x3001, 0x3100, 0xA800, 0x0FFF, 0xC123].map decode =
      [.illegal 0x1, .illegal 0x3, .illegal 0x3, .illegal 0xA, .illegal 0x0, .illegal 0xC] := by
  decide
theorem test_encode_wrreg : encode (.wrreg 3 0x5A) = 0x235A ∧ encode (.rdreg 13) = 0x1D00 := by decide
theorem test_table_word :
    decodeTableWord 16 0x20FF = some (.wrreg 0 0xFF) ∧ decodeTableWord 16 0xB000 = none := by decide
/-- R87, R88: case, comments, the operand's two bases, and errors. -/
theorem test_assembler :
    assembleLine "  DECVS ; volts".toList = .command .decvs ∧
    assembleLine "WRREG QTHH_MSB, 0b11111111".toList = .command (.wrreg 4 0xFF) ∧
    assembleLine "; nothing".toList = .blank ∧ assembleLine "READID 0".toList = .error ∧
    assembleLine "WRREG CTRL".toList = .error ∧ assembleLine "RDREG NOWHERE".toList = .error := by
  decide

/-! ## The command port -/

/-- R101: the word of READID is taken, `BUSY` is set, and nothing reaches the bus yet. -/
theorem test_step_accepts :
    (after (step (State.reset.withFetchWord 16 0x3000))).map
      (fun t => (t.CUR, t.STATUS, t.LASTOP, t.words, t.trace)) =
      some (Instr.readid.fields, 0x80, 0x0, [], []) := by decide
/-- L2-E7 and R201: refused in one step, with `ILLEGAL` alone set and no event. -/
theorem test_step_refuses_illegal :
    (after (step (bench config [0x3100, 0x4000] []))).map
      (fun t => (t.STATUS, t.LASTOP, t.words, t.trace)) = some (0x04, 0x3, [0x4000], []) := by decide
/-- L2-X6: a reset in the middle of RSTQ. -/
theorem test_step_block_reset :
    (after (step { running config .rstq 4 [good 1] 0 0xD2 0xD2 0 with resets := [0, 3] })).map
      (fun t => (t.STATUS, t.STEP, t.S8, t.CUR.op, t.resets)) = some (0x00, 0, 0x00, 0x0, [3]) := by
  decide
/-- R110: while RSTQ executes the host sees the old results and `BUSY`. -/
theorem test_results_wait_for_completion :
    host (step (running config .decq 2 [good 0x34] 0x12 0x12 0 0)) =
      some { OUT := 0, RAW := 0, SAVED := 0, STATUS := 0x80, LASTOP := 0 } := by decide

/-! ## One micro-operation, or the last delay and the results, of each command -/

/-- L2-R1. -/
theorem test_rdreg_reads :
    bus (exec (.rdreg 1) (running config (.rdreg 1) 0 [good 0xD2] 0 0 0 0)) =
      some [.exchange 0x64 [0x01] 1 true (some 0xD2)] := by decide
/-- L2-R2: zero-extended. -/
theorem test_rdreg_result :
    host (exec (.rdreg 9) (running config (.rdreg 9) 1 [] 0 0xFF 0 0)) =
      some { OUT := 0x00FF, RAW := 0x00FF, SAVED := 0, STATUS := 0x01, LASTOP := 0x1 } := by decide
/-- L2-R6: a read-only chip register is written without complaint. -/
theorem test_wrreg_writes :
    bus (exec (.wrreg 0 0x55) (running config (.wrreg 0 0x55) 0 [good 0] 0 0 0 0)) =
      some [.exchange 0x64 [0x00, 0x55] 0 true none] := by decide
/-- L2-R5: the failure of the one access is reported. -/
theorem test_wrreg_failure :
    host (exec (.wrreg 3 0x00) (running config (.wrreg 3 0x00) 1 [] 0 0 0 1)) =
      some { OUT := 0, RAW := 0, SAVED := 0, STATUS := 0x10, LASTOP := 0x2 } := by decide
/-- L1-2, L2-P3. -/
theorem test_readid_present :
    host (exec .readid (running config .readid 1 [] 0 0x3F 0 0)) =
      some { OUT := 0x003F, RAW := 0x003F, SAVED := 0, STATUS := 0x03, LASTOP := 0x3 } := by decide
/-- L1-3, L2-P6. -/
theorem test_readid_other_identity :
    host (exec .readid (running config .readid 1 [] 0 0xC3 0 0)) =
      some { OUT := 0x00C3, RAW := 0x00C3, SAVED := 0, STATUS := 0x01, LASTOP := 0x3 } := by decide
/-- L2-I2: the failure is not reported, and the delay is the settle time. -/
theorem test_init_fire_and_forget :
    (after (exec .init (running config .init 1 [] 0 0 0 1))).map (fun t => (t.STATUS, t.trace)) =
      some (0x01, [.delay 10000]) := by decide
/-- L2-I4. -/
theorem test_init_reports :
    host (exec .init (running aborting .init 1 [] 0 0 0 1)) =
      some { OUT := 0, RAW := 0, SAVED := 0, STATUS := 0x10, LASTOP := 0x4 } := by decide
/-- L2-Q1: the second access. -/
theorem test_rstq_shuts_down :
    bus (exec .rstq (running config .rstq 2 [good 0] 0 0xD2 0xD2 0)) =
      some [.exchange 0x64 [0x01, 0xD3] 0 true none] := by decide
/-- L2-Q6: the delay after the failed access 3 completes the command. -/
theorem test_rstq_aborts :
    host (exec .rstq (running aborting .rstq 5 [] 0 0xD2 0xD2 3)) =
      some { OUT := 0, RAW := 0, SAVED := 0xD2, STATUS := 0x30, LASTOP := 0x5 } := by decide
/-- R67: a failed read delivers 0x00, not the stray byte, and the failure is noted. -/
theorem test_decq_failed_read :
    (after (exec .decq (running config .decq 0 [bad] 0x77 0x77 0 0))).map
      (fun t => (t.M8, t.B8, t.OKACC, t.FAIL, t.STEP)) = some (0x00, 0x00, false, 1, 1) := by decide
/-- L2-D1. -/
theorem test_decq_result :
    host (exec .decq (running config .decq 3 [] 0x7F 0xFF 0 0)) =
      some { OUT := 0x7FFF, RAW := 0x7FFF, SAVED := 0, STATUS := 0x01, LASTOP := 0x6 } := by decide
/-- L2-D6. -/
theorem test_decv_second_read_failed :
    host (exec .decv (running config .decv 3 [] 0x92 0x00 0 2)) =
      some { OUT := 0x9200, RAW := 0x9200, SAVED := 0, STATUS := 0x20, LASTOP := 0x7 } := by decide
/-- L1-8: the host reads -1. -/
theorem test_dect_signed :
    (host (exec .dect (running config .dect 3 [] 0xFF 0xFF 0 0))).bind HostView.outReading =
      some (.s16 (-1)) := by decide
/-- L2-S8: 0x1000 is 375 mV. -/
theorem test_decvs_scales :
    host (exec .decvs (running config .decvs 3 [] 0x10 0x00 0 0)) =
      some { OUT := 375, RAW := 0x1000, SAVED := 0, STATUS := 0x01, LASTOP := 0x9 } := by decide
/-- L2-S20: the top of the range is the full scale, 6000 mV. -/
theorem test_decvs_full_scale :
    host (exec .decvs (running config .decvs 3 [] 0xFF 0xFF 0 0)) =
      some { OUT := 6000, RAW := 0xFFFF, SAVED := 0, STATUS := 0x01, LASTOP := 0x9 } := by decide
/-- L2-D8: both reads failed. -/
theorem test_dects_failed :
    host (exec .dects (running config .dects 3 [] 0x00 0x00 0 1)) =
      some { OUT := 0x954D, RAW := 0x0000, SAVED := 0, STATUS := 0x10, LASTOP := 0xA } := by decide
/-- L2-S15. -/
theorem test_dects_scales :
    (host (exec .dects (running config .dects 3 [] 0x80 0x00 0 0))).bind HostView.outReading =
      some (.s16 2685) := by decide

/-! ## Witnesses: a state and operands that meet the hypotheses of each statement, clause by clause -/

/-- A fresh block issued one word. -/
theorem bench_issues (c : Config) (w : Word) (ws : List Word) (as : List Answer) :
    (bench c (w :: ws) as).Issues w ws :=
  ⟨(by decide : statusBusy 0 = false), rfl, rfl⟩

theorem witness_IllegalWordsKeepTheirOpcode :
    legal 0xA800 = false ∧
    (0x0FFF : Word).extractLsb' 12 4 = 0x0 ∧
    0xB ≤ ((0xB000 : Word).extractLsb' 12 4).toNat ∧ 0xB ≤ ((0xFFFF : Word).extractLsb' 12 4).toNat ∧
    ((0x1001 : Word).extractLsb' 12 4 = 0x1 ∧ (0x1001 : Word).extractLsb' 0 8 ≠ 0) ∧
    (3 ≤ ((0x3001 : Word).extractLsb' 12 4).toNat ∧ (0x3001 : Word).extractLsb' 0 12 ≠ 0) := by
  decide

theorem witness_BlockResetInOneStep :
    ∃ (s : State) (rest : List Nat), s.resets = 0 :: rest ∧ s.busy = true :=
  ⟨{ running config .rstq 4 [] 0 0xD2 0xD2 0 with resets := [0, 7] }, [7], rfl, rfl⟩

theorem witness_ConfigurationNeverChanges : ∃ s t : State, step s = .next t :=
  ⟨bench config [0x3000] [], _, rfl⟩

theorem witness_StepRunsTheDecodedCommand_idle :
    ∃ (s : State) (later : List Nat) (w : Word) (ws : List Word) (i : Instr),
      s.ResetsLater later ∧ s.Idle ∧ s.words = w :: ws ∧ decode w = .legal i :=
  ⟨bench config [0x21D2, 0x3000] [], [], 0x21D2, [0x3000], .wrreg 1 0xD2, .inl ⟨rfl, rfl⟩, rfl, rfl, rfl⟩

theorem witness_StepRunsTheDecodedCommand_running :
    ∃ (s : State) (later : List Nat) (i : Instr), s.ResetsLater later ∧ s.Running i :=
  ⟨{ running config .init 0 [] 0 0 0 0 with resets := [1] }, [0], .init, .inr ⟨0, [], rfl, rfl⟩, rfl, rfl⟩

theorem witness_StepRunsTheDecodedCommand_no_word :
    ∃ (s : State) (later : List Nat), s.ResetsLater later ∧ s.Idle ∧ s.words = [] :=
  ⟨{ bench config [] [good 1] with resets := [1, 5] }, [0, 5], .inr ⟨0, [5], rfl, rfl⟩, rfl, rfl⟩

theorem witness_LegalWordIsAccepted :
    ∃ (w : Word) (i : Instr) (s : State), decode w = .legal i ∧ s.Idle :=
  ⟨0x2FFF, .wrreg 15 0xFF, bench config [] [], rfl, rfl⟩

/-- With no reset to come, and with one due in the step after. -/
theorem witness_IllegalWordIsRefused :
    ∀ resets ∈ [[], [1]], ∃ (s : State) (later : List Nat) (w : Word) (ws : List Word),
      s.resets = resets ∧ s.ResetsLater later ∧ s.Idle ∧ s.words = w :: ws ∧ legal w = false := by
  intro resets h
  have later : resets = [] ∨ resets = [1] := by simpa using h
  rcases later with rfl | rfl
  · exact ⟨bench config [0xB000] [], [], 0xB000, [], rfl, .inl ⟨rfl, rfl⟩, rfl, rfl, rfl⟩
  · exact ⟨{ bench config [0xB000] [] with resets := [1] }, [0], 0xB000, [], rfl,
      .inr ⟨0, [], rfl, rfl⟩, rfl, rfl, rfl⟩

theorem witness_WordWaitsWhileBusy :
    ∃ (s t : State) (i : Instr), s.busy = true ∧ s.words ≠ [] ∧ step s = .next t ∧ s.CUR ≠ i.fields :=
  ⟨{ running config .readid 1 [] 0 0 0 0 with words := [0x4000] }, _, .init, rfl, by decide, rfl,
    by decide⟩

theorem witness_ReadMicroOperation :
    (running config (.rdreg 1) 0 [good 1] 0 0 0 0).AtOp (.rdreg 1) (.rd 1 0x01 .none) ∧
    (running config .rstq 0 [bad] 0 0 0 0).AtOp .rstq (.rd 1 0x01 .s8) ∧
    (running config .decv 0 [good 1] 0 0 0 0).AtOp .decv (.rd 1 0x08 .m8) ∧
    (running config .decv 2 [bad] 0 0 0 1).AtOp .decv (.rd 2 0x09 .none) := by decide

theorem witness_WriteMicroOperation :
    (running config (.wrreg 1 9) 0 [bad] 0 0 0 0).AtOp (.wrreg 1 9) (.wr 1 0x01 .curD) ∧
    (running config .init 0 [good 0] 0 0 0 0).AtOp .init (.wr 1 0x01 .initCtrl) ∧
    (running config .rstq 2 [good 0] 0 1 1 0).AtOp .rstq (.wr 2 0x01 .s8Shutdown) ∧
    (running config .rstq 6 [bad] 0 1 1 0).AtOp .rstq (.wr 4 0x03 .zero) ∧
    (running config .rstq 8 [good 0] 0 1 1 0).AtOp .rstq (.wr 5 0x01 .s8) := by decide

theorem witness_DelayMicroOperation :
    ∃ (i : Instr) (s : State) (us n : Nat), s.AtOp i (.dly us) ∧ s.delays = n + 1 ∧
      s.STEP + 1 < (prog s.config i).length ∧
      (s.config.seqPolicy = .abortAndReport → (i = .init ∨ i = .rstq) → s.OKACC = true) :=
  ⟨.rstq, running aborting .rstq 1 [] 0 0xD2 0xD2 0, 1000, 4, by decide, rfl, by decide, fun _ _ => rfl⟩

theorem witness_ProgramsAlternateAccessAndDelay :
    (prog config .rstq)[8]? = some (.wr 5 0x01 .s8) ∧ (prog config .rstq)[9]? = some (.dly 1000) ∧
    (prog config .init)[1]? = some (.dly 10000) := by decide

theorem witness_UnansweredBlockWaitsForEver_exchange :
    ∃ (s : State) (i : Instr) (m : MicroOp), s.AtOp i m ∧ s.resets = [] ∧
      (m.isDelay = true → s.delays = 0) ∧ (m.isDelay = false → s.answers = []) ∧ m.isDelay = false :=
  ⟨running config .readid 0 [] 0 0 0 0, .readid, .rd 1 0x00 .none, by decide, rfl, by decide, by decide, rfl⟩

theorem witness_UnansweredBlockWaitsForEver_delay :
    ∃ (s : State) (i : Instr) (m : MicroOp), s.AtOp i m ∧ s.resets = [] ∧
      (m.isDelay = true → s.delays = 0) ∧ (m.isDelay = false → s.answers = []) ∧ m.isDelay = true :=
  ⟨{ running config .readid 1 [good 0] 0 0 0 0 with delays := 0 }, .readid, .dly 1000, by decide, rfl, by decide,
    by decide, rfl⟩

/-- The three outcomes: an operation run, a command completed, a wait. -/
theorem witness_StepIndexAdvancesByOne :
    ∀ s ∈ [running config .decq 0 [good 1] 0 0 0 0, running config .decq 3 [] 0 0 0 0,
        running config .decq 0 [] 0 0 0 0],
      s.busy = true ∧ s.NoResetDue ∧ (after (step s)).isSome = true := by decide

theorem witness_ResultsOnlyAtCompletion : ∃ s t : State, step s = .next t ∧ t.busy = true :=
  ⟨running config .decq 2 [good 1] 7 7 0 0, _, rfl, rfl⟩

theorem witness_PolicyGovernsOnlyInitAndRstq :
    ∃ (i : Instr) (s t : State), i ≠ .init ∧ i ≠ .rstq ∧ exec i s = .next t ∧ t.Idle :=
  ⟨.decv, running config .decv 3 [] 0 0 0 1, _, by decide, by decide, rfl, rfl⟩

theorem witness_EveryCommandCompletes :
    ∃ (s : State) (i : Instr) (ws : List Word), s.Issues (encode i) ws ∧ 5 ≤ s.answers.length ∧
      5 ≤ s.delays :=
  ⟨_, .rstq, [], bench_issues config (encode .rstq) [] (List.replicate 5 bad), by decide, by decide⟩

theorem witness_RdregCommits :
    (running config (.rdreg 15) 1 [] 0 0x80 0 0).Running (.rdreg 15) ∧
    (running config (.rdreg 15) 1 [] 0 0x80 0 0).STEP = 1 ∧
    (running config (.rdreg 15) 1 [] 0 0x80 0 0).delays = 4 + 1 := by decide

theorem witness_WrregCommits :
    (running config (.wrreg 0 0xFF) 1 [] 0 0 0 1).Running (.wrreg 0 0xFF) ∧
    (running config (.wrreg 0 0xFF) 1 [] 0 0 0 1).STEP = 1 ∧
    (running config (.wrreg 0 0xFF) 1 [] 0 0 0 1).delays = 4 + 1 := by decide

theorem witness_ReadidCommits :
    (running config .readid 1 [] 0 0x40 0 0).Running .readid ∧
    (running config .readid 1 [] 0 0x40 0 0).STEP = 1 ∧
    (running config .readid 1 [] 0 0x40 0 0).delays = 4 + 1 := by decide

/-- Either policy, with the access failed. -/
theorem witness_InitCommits :
    ∀ c ∈ [config, aborting], (running c .init 1 [] 0 0 0 1).Running .init ∧
      (running c .init 1 [] 0 0 0 1).STEP = 1 ∧ (running c .init 1 [] 0 0 0 1).delays = 4 + 1 := by
  decide

theorem witness_RstqCommits_last :
    ∀ c ∈ [config, aborting], (running c .rstq 9 [] 0 1 1 0).Running .rstq ∧
      (running c .rstq 9 [] 0 1 1 0).delays = 4 + 1 ∧ (running c .rstq 9 [] 0 1 1 0).STEP = 9 := by
  decide

theorem witness_RstqCommits_aborting :
    ∀ k ∈ [1, 2, 3, 4, 5],
      (running aborting .rstq (2 * k - 1) [] 0 1 1 (BitVec.ofNat 3 k)).Running .rstq ∧
      (running aborting .rstq (2 * k - 1) [] 0 1 1 (BitVec.ofNat 3 k)).config.seqPolicy = .abortAndReport ∧
      (running aborting .rstq (2 * k - 1) [] 0 1 1 (BitVec.ofNat 3 k)).OKACC = false ∧
      (2 * k - 1) % 2 = 1 ∧ 2 * k - 1 < 10 := by decide

theorem witness_RawDecodersCommit :
    ∀ i ∈ [Instr.decq, .decv, .dect], (running config i 3 [] 0xFF 0xFF 0 0).Running i ∧
      (running config i 3 [] 0xFF 0xFF 0 0).STEP = 3 ∧
      (running config i 3 [] 0xFF 0xFF 0 0).delays = 4 + 1 := by decide

theorem witness_DecvsCommits :
    (running config .decvs 3 [] 0xFF 0xFF 0 0).Running .decvs ∧
    (running config .decvs 3 [] 0xFF 0xFF 0 0).STEP = 3 ∧
    (running config .decvs 3 [] 0xFF 0xFF 0 0).delays = 4 + 1 ∧
    (running config .decvs 3 [] 0xFF 0xFF 0 0).config.codeFs = 65535 := by decide

theorem witness_DectsCommits :
    (running config .dects 3 [] 0x00 0x00 0 0).Running .dects ∧
    (running config .dects 3 [] 0x00 0x00 0 0).STEP = 3 ∧
    (running config .dects 3 [] 0x00 0x00 0 0).delays = 4 + 1 ∧
    (running config .dects 3 [] 0x00 0x00 0 0).config.codeFs = 65535 := by decide

theorem witness_RdregFromIssueToResult :
    ∃ (a : Nibble) (s : State) (ws : List Word) (ans : Answer) (rest : List Answer) (n : Nat),
      s.Issues (encode (.rdreg a)) ws ∧ s.answers = ans :: rest ∧ s.delays = n + 1 :=
  ⟨15, _, [], bad, [], 4, bench_issues config (encode (.rdreg 15)) [] [bad], rfl, rfl⟩

theorem witness_WrregFromIssueToResult :
    ∃ (a : Nibble) (d : Byte) (s : State) (ws : List Word) (ans : Answer) (rest : List Answer) (n : Nat),
      s.Issues (encode (.wrreg a d)) ws ∧ s.answers = ans :: rest ∧ s.delays = n + 1 :=
  ⟨1, 0xD2, _, [], good 0, [], 4, bench_issues config (encode (.wrreg 1 0xD2)) [] [good 0], rfl, rfl⟩

theorem witness_ReadidFromIssueToResult :
    ∃ (s : State) (ws : List Word) (ans : Answer) (rest : List Answer) (n : Nat),
      s.Issues (encode .readid) ws ∧ s.answers = ans :: rest ∧ s.delays = n + 1 :=
  ⟨_, [], good 0x3F, [], 4, bench_issues config (encode .readid) [] [good 0x3F], rfl, rfl⟩

theorem witness_InitFromIssueToResult :
    ∀ c ∈ [config, aborting], ∃ (s : State) (ws : List Word) (ans : Answer) (rest : List Answer) (n : Nat),
      s.config = c ∧ s.Issues (encode .init) ws ∧ s.answers = ans :: rest ∧ s.delays = n + 1 :=
  fun c _ => ⟨_, [], bad, [], 4, rfl, bench_issues c (encode .init) [] [bad], rfl, rfl⟩

/-- Each of the five decode commands, the first read failed. -/
theorem witness_DecodersFromIssueToResult :
    ∀ i ∈ [Instr.decq, .decv, .dect, .decvs, .dects],
      ∃ (msb lsb : Byte) (s : State) (ws : List Word) (a1 a2 : Answer) (rest : List Answer) (n : Nat),
        decoderPair i = some (msb, lsb) ∧ s.Issues (encode i) ws ∧ s.answers = a1 :: a2 :: rest ∧
        s.delays = n + 2 := by
  intro i hi
  have h : decoderPair i ≠ none := by revert i; decide
  obtain ⟨⟨msb, lsb⟩, h⟩ := Option.ne_none_iff_exists'.mp h
  exact ⟨msb, lsb, _, [], bad, good 0x40, [], 3, h, bench_issues config (encode i) [] [bad, good 0x40],
    rfl, rfl⟩

theorem witness_DecodersIgnoreHistory :
    ∃ (i : Instr) (pair : Byte × Byte) (s s' : State) (ws ws' : List Word) (a1 a2 : Answer)
      (rest rest' : List Answer),
      decoderPair i = some pair ∧ s.config = s'.config ∧
      statusReserved s.STATUS = false ∧ statusReserved s'.STATUS = false ∧ s ≠ s' ∧
      s.Issues (encode i) ws ∧ s'.Issues (encode i) ws' ∧
      s.answers = a1 :: a2 :: rest ∧ s'.answers = a1 :: a2 :: rest' ∧ 2 ≤ s.delays ∧ 2 ≤ s'.delays :=
  ⟨.decv, (0x08, 0x09), bench config [0x7000] [good 1, bad],
    { bench config [0x7000] [good 1, bad] with M8 := 0x55, FAIL := 3, OUT := 9, STATUS := 0x20 }, [], [],
    good 1, bad, [], [], rfl, rfl, rfl, rfl,
    fun h => absurd (congrArg State.OUT h) (by decide), bench_issues config 0x7000 [] [good 1, bad],
    ⟨rfl, rfl, rfl⟩, rfl, rfl, by decide, by decide⟩

/-- DECT and DECTS, at the two codes where the sign of DECT's reading changes. -/
theorem witness_TemperatureReadsSigned :
    ∀ i ∈ [Instr.dect, .dects], ∀ m ∈ [(0x7F : Byte), 0x80],
      ∃ (s : State) (ws : List Word) (a1 a2 : Answer) (rest : List Answer) (code : Nat),
        (i = .dect ∨ i = .dects) ∧ s.Issues (encode i) ws ∧ s.answers = a1 :: a2 :: rest ∧ 2 ≤ s.delays ∧
        s.config.wf = true ∧ s.config.codeFs = 65535 ∧ code = 256 * a1.byte.toNat + a2.byte.toNat := by
  intro i hi m _
  have h : i = .dect ∨ i = .dects := by revert i; decide
  exact ⟨_, [], good m, good (0x7F - m), [], _, h,
    bench_issues config (encode i) [] [good m, good (0x7F - m)], rfl,
    (by decide : 2 ≤ 5), (by decide : config.wf = true), rfl, rfl⟩

theorem witness_RstqFireAndForget :
    ∃ (s : State) (ws : List Word) (a1 a2 a3 a4 a5 : Answer) (rest : List Answer) (n : Nat) (v : Byte),
      s.Issues (encode .rstq) ws ∧ s.config.seqPolicy = .fireAndForget ∧
      s.answers = a1 :: a2 :: a3 :: a4 :: a5 :: rest ∧ s.delays = n + 5 ∧ v = a1.byte :=
  ⟨_, [], good 0xD2, good 0, bad, good 0, good 0, [], 0, 0xD2,
    bench_issues config (encode .rstq) [] [good 0xD2, good 0, bad, good 0, good 0], rfl, rfl, rfl, rfl⟩

/-- The first failure at each of the five accesses. -/
theorem witness_RstqAbortsAtFirstFailure :
    ∀ k ∈ [0, 1, 2, 3, 4],
      ∃ (s : State) (ws : List Word) (oks : List Answer) (bad : Answer) (rest : List Answer) (n : Nat)
        (v : Byte),
        oks.length = k ∧ s.Issues (encode .rstq) ws ∧ s.config.seqPolicy = .abortAndReport ∧
        oks.length ≤ 4 ∧ (∀ a ∈ oks, a.ok = true) ∧ bad.ok = false ∧ s.answers = oks ++ bad :: rest ∧
        s.delays = n + (oks.length + 1) ∧ v = ((oks ++ [bad]).headD bad).byte := by
  intro k hk
  have h : k ≤ 4 := by revert k; decide
  refine ⟨_, [], List.replicate k (good 0xD2), bad, [], 4 - k, _, by simp,
    bench_issues aborting (encode .rstq) [] (List.replicate k (good 0xD2) ++ bad :: []), rfl, by simpa using h,
    ?_, rfl, rfl, ?_, rfl⟩
  · intro a ha
    rw [List.eq_of_mem_replicate ha]
    rfl
  · change 5 = 4 - k + ((List.replicate k (good 0xD2)).length + 1)
    simp only [List.length_replicate]
    omega

theorem witness_RstqReportsSuccess :
    ∃ (s : State) (ws : List Word) (oks : List Answer) (rest : List Answer) (n : Nat) (v : Byte),
      s.Issues (encode .rstq) ws ∧ s.config.seqPolicy = .abortAndReport ∧ oks.length = 5 ∧
      (∀ a ∈ oks, a.ok = true) ∧ s.answers = oks ++ rest ∧ s.delays = n + 5 ∧
      oks.head?.map Answer.byte = some v :=
  ⟨_, [], List.replicate 5 (good 0xD2), [], 0, 0xD2,
    bench_issues aborting (encode .rstq) [] (List.replicate 5 (good 0xD2)), rfl, rfl, by decide, rfl, rfl,
    rfl⟩

/-- A phase that goes on, an aborting gap, and the last gap. -/
theorem witness_RstqPhaseTable :
    ∀ sp ∈ [(running config .rstq 0 [good 1] 0 0 0 0, RstqPhase.readCtrl),
        (running aborting .rstq 3 [good 1] 0 0 0 2, RstqPhase.gap2),
        (running aborting .rstq 9 [good 1] 0 0 0 0, RstqPhase.gap5)],
      sp.1.Running .rstq ∧ sp.1.rstqPhase = some sp.2 ∧ sp.1.resets = [] ∧ sp.1.answers ≠ [] ∧
      sp.1.delays ≠ 0 := by decide

theorem witness_RstqChipTransitions :
    ∃ (s t : State) (ws : List Word) (a1 a2 a3 a4 a5 : Answer) (rest : List Answer) (m : ChipMem)
      (events : List BusEvent),
      s.Issues (encode .rstq) ws ∧ s.answers = a1 :: a2 :: a3 :: a4 :: a5 :: rest ∧ 5 ≤ s.delays ∧
      a1.ok = true ∧ a2.ok = true ∧ a3.ok = true ∧ a4.ok = true ∧ a5.ok = true ∧
      a1.rx = chipRead m 0x01 ∧ run 11 s = .next t ∧ t.trace = s.trace ++ events :=
  ⟨bench config [encode .rstq] (good 0xD2 :: List.replicate 4 (good 0)), _, [], good 0xD2, good 0, good 0,
    good 0, good 0, [], (Vector.replicate 16 0x77).set 1 0xD2, _, bench_issues config (encode .rstq) [] _,
    rfl, by decide, rfl, rfl, rfl, rfl, rfl, rfl, rfl, rfl⟩

/-- A block in the middle of RSTQ after a failed access meets the invariant. -/
theorem running_inv : (running config .rstq 4 [good 0] 0 0xD2 0xD2 2).Inv :=
  ⟨rfl, by decide, by decide, by decide, by decide, by decide, by decide, fun _ => ⟨.rstq, rfl, by decide⟩⟩

theorem witness_StepKeepsInvariant : ∃ s t : State, s.Inv ∧ step s = .next t ∧ t.STEP = 5 :=
  ⟨_, _, running_inv, rfl, rfl⟩

theorem witness_MachineNeverStops : ∃ s : State, s.Inv ∧ s.busy = true := ⟨_, running_inv, rfl⟩

theorem witness_EveryBusEventIsShaped : ∃ s t : State, step s = .next t ∧ t.trace ≠ s.trace :=
  ⟨running config .readid 0 [bad] 0 0 0 0, _, rfl, by decide⟩

theorem witness_AccessesAreSpaced :
    ∃ s t : State, s.config.wf = true ∧ s.NoResetDue ∧ s.SpacedInv ∧ step s = .next t :=
  ⟨{ running config .init 1 [] 0 0 0 0 with trace := [.exchange 0x64 [0x01, 0xD2] 0 true none] }, _,
    by decide, by decide, ⟨by decide, by decide⟩, rfl⟩

theorem witness_OnlyRstqWritesSaved :
    ∃ s t : State, s.NoResetDue ∧ step s = .next t ∧ t.SAVED ≠ s.SAVED :=
  ⟨running config .rstq 9 [] 0 0xD2 0xD2 0, _, by decide, rfl, by decide⟩

theorem witness_OnlyValueCommandsWriteOut :
    ∃ s t : State, s.NoResetDue ∧ step s = .next t ∧ (t.OUT ≠ s.OUT ∨ t.RAW ≠ s.RAW) :=
  ⟨running config .readid 1 [] 0 0x12 0 0, _, by decide, rfl, .inl (by decide)⟩

theorem witness_VoltageScalingIsExact :
    0 < config.codeFs.toNat ∧ (0xFFFF : Word).toNat ≤ config.codeFs.toNat := by decide

theorem witness_TemperatureScalingIsExact :
    config.wf = true ∧ (0xFFFF : Word).toNat ≤ config.codeFs.toNat := by decide

theorem witness_ScalingIsMonotone :
    0 < config.codeFs.toNat ∧ (0xFFFF : Word).toNat ≤ config.codeFs.toNat ∧
    (0xFFFE : Word).toNat ≤ (0xFFFF : Word).toNat := by decide

end Sys2Proof.Tests
end

section
/-! The parameters of R8: the check `Config.wf` clause by clause, and the built parameters. -/

namespace Sys2Proof.Proofs.Scope
open Sys2Proof

/-- `Config.wf` as a conjunction of the constraints of R135, R173 and R8. -/
theorem config_wf_iff (c : Config) :
    c.wf = true ↔ c.gapUs ≤ c.initUs ∧ 0 < c.codeFs.toNat ∧
      c.tfsCk.toNat ≤ 32767 + c.toffCk.toNat ∧ c.toffCk.toNat ≤ 32768 := by
  simp only [Config.wf, Bool.and_eq_true, decide_eq_true_eq, and_assoc]

/-- R135: `P_T_INIT_US` is built as `P_T_GAP_US` and an excess, so neither value need be known. -/
theorem built_gapUs_le_initUs : Config.built.gapUs ≤ Config.built.initUs :=
  Nat.le_add_right Config.openGapUs Config.openSettleExtraUs

/-- Settles O8: the settle delay is the gap and an excess, and the other three constraints are about
known numbers. -/
theorem builtParametersMeetConstraints : Obligations.BuiltParametersMeetConstraints := by
  have fullScale : 0 < Config.built.codeFs.toNat := by decide
  have rangeTop : Config.built.tfsCk.toNat ≤ 32767 + Config.built.toffCk.toNat := by decide
  have rangeBottom : Config.built.toffCk.toNat ≤ 32768 := by decide
  exact (config_wf_iff _).mpr ⟨built_gapUs_le_initUs, fullScale, rangeTop, rangeBottom⟩

end Sys2Proof.Proofs.Scope
end

section
/-! The block's own state under one step: the completion of a command, the invariant of the block, and who
writes `SAVED`, `OUT` and `RAW` (10_state.md R21 to R39). -/

namespace Sys2Proof.Proofs.BlockState
open Sys2Proof Sys2Proof.Machine

/-! ## What a step can do to the registers -/

/-- Command `i` completes in the step from `s` to `t`: its last micro-operation, a delay, has left `ran`
(40_engine.md R109, R112). -/
structure Completion (i : Instr) (s ran t : State) : Prop where
  running : s.Running i
  untouched : Untouched s ran
  okacc : ran.OKACC = s.OKACC
  fail : ran.FAIL = s.FAIL
  s8 : ran.S8 = s.S8
  result : t = (commit i ran.advance).finish

/-- Command `i` goes on in the step from `s` to `t`: its micro-operation `m` has left `ran`, and another is
to come (40_engine.md R112). -/
structure GoesOn (i : Instr) (m : MicroOp) (s ran t : State) : Prop where
  running : s.Running i
  mem : m ∈ prog s.config i
  ranTo : runMicroOp m s = some ran
  more : s.STEP + 1 < (prog s.config i).length
  result : t = ran.advance

/-- Only a delay completes a command: a micro-program's last operation is one (40_engine.md R103). -/
theorem isDelay_of_completes {i : Instr} {m : MicroOp} {s ran : State}
    (hm : (prog s.config i)[s.STEP]? = some m) (hran : runMicroOp m s = some ran)
    (hc : completes (prog s.config i) m ran.advance = true) : m.isDelay = true := by
  obtain ⟨huntouched, -⟩ := runMicroOp_cases hran
  have hodd := prog_isDelay_iff_odd hm
  obtain ⟨heven, -, -⟩ := prog_length s.config i
  simp only [completes, Bool.or_eq_true, Bool.and_eq_true, beq_iff_eq, State.advance_STEP,
    huntouched.STEP] at hc
  rcases hc with ⟨hdelay, -⟩ | hlast
  · exact hdelay
  · rw [hodd, decide_eq_true_eq]
    omega

/-- A delay leaves the outcome latches and `S8` alone (40_engine.md R107). -/
theorem latches_of_delay {m : MicroOp} {s ran : State} (h : runMicroOp m s = some ran)
    (hdelay : m.isDelay = true) : ran.OKACC = s.OKACC ∧ ran.FAIL = s.FAIL ∧ ran.S8 = s.S8 := by
  cases m with
  | rd k a l => cases hdelay
  | wr k a e => cases hdelay
  | dly us =>
    obtain ⟨-, ⟨_, _, _, _, _, hm, _⟩ | ⟨_, _, _, _, _, hm, _⟩ | ⟨_, _, _, _, rfl⟩⟩ := runMicroOp_cases h
    · cases hm
    · cases hm
    · exact ⟨rfl, rfl, rfl⟩

/-- A running command's step that answers a state waits, goes on or completes. -/
theorem exec_running_cases {i : Instr} {s t : State} (hrun : s.Running i) (h : exec i s = .next t) :
    t = s ∨ (∃ m ran, GoesOn i m s ran t) ∨ ∃ ran, Completion i s ran t := by
  rw [exec_of_running hrun] at h
  obtain ⟨m, hm, ⟨-, rfl⟩ | ⟨ran, hran, ⟨hc, rfl⟩ | ⟨hc, rfl⟩⟩⟩ := engineStep_cases h
  · exact .inl rfl
  · obtain ⟨hlt, hget⟩ := List.getElem?_eq_some_iff.mp hm
    obtain ⟨huntouched, -⟩ := runMicroOp_cases hran
    have hne : ¬ s.STEP + 1 = (prog s.config i).length := by
      simp only [completes, Bool.or_eq_false_iff, beq_eq_false_iff_ne, State.advance_STEP,
        huntouched.STEP] at hc
      exact hc.2
    exact .inr (.inl ⟨m, ran, hrun, hget ▸ List.getElem_mem hlt, hran, by omega, rfl⟩)
  · obtain ⟨huntouched, -⟩ := runMicroOp_cases hran
    obtain ⟨hok, hfail, hs8⟩ := latches_of_delay hran (isDelay_of_completes hm hran hc)
    exact .inr (.inr ⟨ran, hrun, huntouched, hok, hfail, hs8, rfl⟩)

/-- Everything a step without a due reset can do, down to the micro-operation: wait, accept, refuse, go on
or complete. -/
theorem stepBlock_micro_cases {s t : State} (h : stepBlock s = .next t) :
    t = s ∨
    (∃ ws, ∃ i : Instr, t = ({ s with words := ws } : State).accept i.fields) ∨
    (∃ ws op, s.Idle ∧ t = ({ s with words := ws } : State).refuseIllegal op) ∨
    (∃ i m ran, GoesOn i m s ran t) ∨
    (∃ i ran, Completion i s ran t) := by
  obtain ⟨-, -, rfl⟩ | ⟨-, ws, i, -, -, -, rfl⟩ | ⟨-, ws, op, hidle, -, -, rfl⟩ | ⟨i, hbusy, -, hexec⟩ :=
    stepBlock_cases h
  · exact .inl rfl
  · exact .inr (.inl ⟨ws, i, rfl⟩)
  · exact .inr (.inr (.inl ⟨ws, op, hidle, rfl⟩))
  · obtain ⟨hidle, -⟩ | ⟨-, -, rfl⟩ | ⟨hrun, -⟩ := exec_cases hexec
    · simp [State.Idle, hbusy] at hidle
    · exact .inl rfl
    · obtain rfl | ⟨m, ran, hgo⟩ | ⟨ran, hdone⟩ := exec_running_cases hrun hexec
      · exact .inl rfl
      · exact .inr (.inr (.inr (.inl ⟨i, m, ran, hgo⟩)))
      · exact .inr (.inr (.inr (.inr ⟨i, ran, hdone⟩)))

/-! ## What a commit writes -/

/-- The value-producing commands are those that write `OUT` and `RAW` (10_state.md R21, R22). -/
def producesValue : Instr → Bool
  | .rdreg _ | .readid | .decq | .decv | .dect | .decvs | .dects => true
  | .wrreg _ _ | .init | .rstq => false

/-- A command that produces no value leaves `OUT` and `RAW` (10_state.md R21, R22). -/
theorem commit_values_of_not_producesValue {i : Instr} (s : State) (h : producesValue i = false) :
    (commit i s).OUT = s.OUT ∧ (commit i s).RAW = s.RAW := by
  cases i <;> simp_all [producesValue, commit, commitWrreg, commitInit, commitRstq]

/-- Only RSTQ's commit writes `SAVED`, and it writes `S8` (42_device_control.md R137, R138). -/
theorem commit_SAVED (i : Instr) (s : State) :
    (commit i s).SAVED = if i = .rstq then s.S8 else s.SAVED := by
  cases i <;>
    simp [commit, commitRdreg, commitWrreg, commitReadid, commitInit, commitRstq, commitDecq, commitDecv,
      commitDect, commitDecvs, commitDects]

/-- Every commit writes one report: `ILLEGAL` 0, `OK` and `ERRSTEP` either the outcome latches or (INIT and
RSTQ by policy) success, and `PRESENT` only for READID with `OKACC` (60_exceptions.md R202, 10_state.md
R26). -/
theorem commit_STATUS (i : Instr) (s : State) :
    ∃ ok present err, (commit i s).STATUS = writeReport s.STATUS ok present false err ∧
      (ok = s.OKACC ∧ err = s.FAIL ∨ ok = true ∧ err = 0) ∧
      (present = true → i = .readid ∧ ok = true) := by
  have byPolicy (u : State) : ∃ ok present err,
      u.reportByPolicy.STATUS = writeReport u.STATUS ok present false err ∧
      (ok = u.OKACC ∧ err = u.FAIL ∨ ok = true ∧ err = 0) ∧
      (present = true → i = .readid ∧ ok = true) := by
    refine ⟨_, _, _, State.reportByPolicy_STATUS u, ?_, by simp⟩
    cases u.config.seqPolicy <;> simp
  cases i
  case init => exact byPolicy s
  case rstq => exact byPolicy { s with SAVED := s.S8 }
  case readid => exact ⟨_, _, _, rfl, .inl ⟨rfl, rfl⟩, by simp +contextual [State.putByte]⟩
  all_goals exact ⟨_, _, _, rfl, .inl ⟨rfl, rfl⟩, nofun⟩

namespace Completion

variable {i : Instr} {s ran t : State}

/-- A completed command leaves the block idle (40_engine.md R109). -/
theorem idle (h : Completion i s ran t) : t.Idle := by
  rw [h.result]
  exact statusBusy_writeBusy _ false

/-- A completed command is named in `LASTOP` (40_engine.md R109). -/
theorem LASTOP (h : Completion i s ran t) : t.LASTOP = i.fields.op := by
  obtain ⟨-, -, hcur, -⟩ := commit_keeps i ran.advance
  obtain ⟨-, hi⟩ := h.running
  simp [h.result, hcur, h.untouched.CUR, hi]

end Completion

/-! ## The invariant -/

/-- The outcome latches agree, and `FAIL` is at most 5 (10_state.md R36). -/
def LatchesAgree (s : State) : Prop := s.FAIL.toNat ≤ 5 ∧ (s.OKACC = true ↔ s.FAIL = 0)

/-- Noting an outcome under an access number in 1..5 keeps the latches in agreement. -/
theorem latchesAgree_noteOutcome {s : State} (ok : Bool) {k : BitVec 3} (hk : k ≠ 0 ∧ k.toNat ≤ 5)
    (h : LatchesAgree s) : LatchesAgree (noteOutcome ok k s) := by
  obtain ⟨hle, hiff⟩ := h
  obtain ⟨hk0, hk5⟩ := hk
  cases ok with
  | true => exact ⟨hle, hiff⟩
  | false =>
    by_cases hf : s.FAIL = 0
    · simp_all [LatchesAgree]
    · simp_all [LatchesAgree]

/-- Every micro-operation of a command keeps the latches in agreement, since access numbers are 1..5
(40_engine.md R103, R105, R106). -/
theorem latchesAgree_runMicroOp {i : Instr} {m : MicroOp} {s t : State} (hm : m ∈ prog s.config i)
    (hrun : runMicroOp m s = some t) (h : LatchesAgree s) : LatchesAgree t := by
  obtain ⟨hnumber, -⟩ := prog_access_bounds hm
  obtain ⟨-, ⟨k, a, l, ans, rest, rfl, -, rfl⟩ | ⟨k, a, e, ans, rest, rfl, -, rfl⟩ |
    ⟨us, n, rfl, -, rfl⟩⟩ := runMicroOp_cases hrun
  · exact latchesAgree_noteOutcome _ (hnumber k rfl) (by simpa [LatchesAgree] using h)
  · exact latchesAgree_noteOutcome _ (hnumber k rfl) h
  · exact h

/-- The invariant does not speak of the environment's words and resets. -/
theorem inv_withEnvironment {s : State} (h : s.Inv) (words : List Word) (resets : List Nat) :
    State.Inv { s with words := words, resets := resets } :=
  ⟨h.reserved, h.errstep, h.success, h.present, h.fail, h.okacc, h.idle, h.running⟩

/-- A block reset establishes the invariant in any state (10_state.md R38). -/
theorem inv_blockReset (s : State) : s.blockReset.Inv where
  reserved := (by decide : statusReserved 0 = false)
  errstep := (by decide : (statusErrstep 0).toNat ≤ 5)
  success := by simp [statusOk]
  present := by simp [statusPresent]
  fail := by simp
  okacc := by simp
  idle := fun _ => rfl
  running := by simp [State.busy, statusBusy]

/-- Acceptance keeps the invariant: the latches start afresh, and no micro-program is empty
(40_engine.md R101). -/
theorem inv_accept {s : State} (i : Instr) (h : s.Inv) : (s.accept i.fields).Inv where
  reserved := by simpa using h.reserved
  errstep := by simpa using h.errstep
  success := by simpa using h.success
  present := by simpa using h.present
  fail := by simp
  okacc := by simp
  idle := by simp
  running := fun _ =>
    have ⟨_, hpositive, _⟩ := prog_length s.config i
    ⟨i, rfl, hpositive⟩

/-- The refusal of an illegal word by an idle block keeps the invariant (60_exceptions.md R201). -/
theorem inv_refuseIllegal {s : State} (op : Nibble) (hidle : s.Idle) (h : s.Inv) :
    (s.refuseIllegal op).Inv where
  reserved := by simpa using h.reserved
  errstep := by simp
  success := by simp
  present := by simp
  fail := h.fail
  okacc := h.okacc
  idle := fun _ => h.idle hidle
  running := fun hbusy => by simp_all [State.Idle, State.busy]

/-- A command that goes on keeps the invariant: `STEP` still points into its micro-program
(40_engine.md R113). -/
theorem GoesOn.inv {i : Instr} {m : MicroOp} {s ran t : State} (hgo : GoesOn i m s ran t) (h : s.Inv) :
    t.Inv := by
  obtain ⟨⟨hbusy, hcur⟩, hmem, hran, hmore, rfl⟩ := hgo
  obtain ⟨hu, -⟩ := runMicroOp_cases hran
  obtain ⟨hfail, hokacc⟩ := latchesAgree_runMicroOp hmem hran ⟨h.fail, h.okacc⟩
  exact {
    reserved := by simpa [hu.STATUS] using h.reserved
    errstep := by simpa [hu.STATUS] using h.errstep
    success := by simpa [hu.STATUS] using h.success
    present := by simpa [hu.STATUS, hu.LASTOP] using h.present
    fail := hfail
    okacc := hokacc
    idle := fun hidle => by simp_all [State.busy, hu.STATUS]
    running := fun _ => ⟨i, by simp [hu.CUR, hcur], by simpa [hu.STEP, hu.config] using hmore⟩ }

/-- A completed command keeps the invariant: its report is the outcome latches, which agree, or success
(60_exceptions.md R202). -/
theorem Completion.inv {i : Instr} {s ran t : State} (hdone : Completion i s ran t) (h : s.Inv) :
    t.Inv := by
  obtain ⟨ok, present, err, hstatus, hreport, hpresent⟩ := commit_STATUS i ran.advance
  obtain ⟨-, -, -, -, -, -, hokacc, hfail, -⟩ := commit_keeps i ran.advance
  have ht : t.STATUS = writeBusy (writeReport s.STATUS ok present false err) false := by
    simp [hdone.result, hstatus, hdone.untouched.STATUS]
  have htFail : t.FAIL = s.FAIL := by simp [hdone.result, hfail, hdone.fail]
  have htOkacc : t.OKACC = s.OKACC := by simp [hdone.result, hokacc, hdone.okacc]
  have hagree : err.toNat ≤ 5 ∧ (ok = true → err = 0) := by
    rcases hreport with ⟨rfl, rfl⟩ | ⟨-, rfl⟩
    · simpa [hdone.fail, hdone.okacc] using And.intro h.fail h.okacc.mp
    · simp
  exact {
    reserved := by simpa [ht] using h.reserved
    errstep := by simpa [ht] using hagree.1
    success := by simpa [ht] using hagree.2
    present := by
      intro hp
      obtain ⟨rfl, rfl⟩ := hpresent (by simpa [ht] using hp)
      exact ⟨by simp [ht], hdone.LASTOP⟩
    fail := htFail ▸ h.fail
    okacc := by rw [htFail, htOkacc]; exact h.okacc
    idle := fun _ => by rw [hdone.result]; rfl
    running := fun hbusy => by simp [hdone.idle] at hbusy }

/-- A step without a due reset keeps the invariant. -/
theorem inv_stepBlock {s t : State} (h : s.Inv) (hstep : stepBlock s = .next t) : t.Inv := by
  obtain rfl | ⟨ws, i, rfl⟩ | ⟨ws, op, hidle, rfl⟩ | ⟨i, m, ran, hgo⟩ | ⟨i, ran, hdone⟩ :=
    stepBlock_micro_cases hstep
  · exact h
  · exact inv_accept i (inv_withEnvironment h ws s.resets)
  · exact inv_refuseIllegal op hidle (inv_withEnvironment h ws s.resets)
  · exact hgo.inv h
  · exact hdone.inv h

/-- Settles O44: a reset establishes the invariant, and each thing the block can do keeps it. -/
theorem stepKeepsInvariant : Obligations.StepKeepsInvariant := by
  intro s t h hstep
  obtain ⟨rest, -, rfl⟩ | ⟨rs, -, hblock⟩ := step_cases hstep
  · exact inv_blockReset _
  · exact inv_stepBlock (inv_withEnvironment h s.words rs) hblock

/-- Settles O43: the reset state is what a block reset makes of it. -/
theorem invariantHoldsAtReset : Obligations.InvariantHoldsAtReset :=
  inv_blockReset State.reset

/-- Settles O6: every register by its definition. -/
theorem resetValues : Obligations.ResetValues :=
  ⟨rfl, rfl, rfl, rfl, rfl, rfl, rfl, rfl, rfl, rfl, rfl, rfl⟩

/-! ## Who writes the result registers -/

/-- A block's step that changes a result register completes a command (40_engine.md R109, R110). -/
theorem completion_of_result_changed {s t : State} (h : stepBlock s = .next t)
    (hchanged : t.OUT ≠ s.OUT ∨ t.RAW ≠ s.RAW ∨ t.SAVED ≠ s.SAVED) : ∃ i ran, Completion i s ran t := by
  obtain rfl | ⟨ws, i, rfl⟩ | ⟨ws, op, -, rfl⟩ | ⟨i, m, ran, hgo⟩ | hdone := stepBlock_micro_cases h
  · simp at hchanged
  · simp at hchanged
  · simp at hchanged
  · obtain ⟨hu, -⟩ := runMicroOp_cases hgo.ranTo
    simp [hgo.result, hu.OUT, hu.RAW, hu.SAVED] at hchanged
  · exact hdone

/-- Settles O49: the step completes a command, and only RSTQ's commit writes `SAVED`. -/
theorem onlyRstqWritesSaved : Obligations.OnlyRstqWritesSaved := by
  intro s t hdue hstep hsaved
  obtain ⟨rest, hr, -⟩ | ⟨rs, -, hblock⟩ := step_cases hstep
  · simp [State.NoResetDue, hr] at hdue
  · obtain ⟨i, ran, hdone⟩ := completion_of_result_changed hblock (.inr (.inr hsaved))
    have hsavedIs : t.SAVED = if i = .rstq then s.S8 else s.SAVED := by
      simp [hdone.result, commit_SAVED, hdone.s8, hdone.untouched.SAVED]
    by_cases hi : i = .rstq
    · subst hi
      exact ⟨hdone.running.1, hdone.running.2, hdone.idle, hdone.LASTOP, by simpa using hsavedIs⟩
    · rw [if_neg hi] at hsavedIs
      exact absurd hsavedIs hsaved

/-- The opcodes of the value-producing commands (30_encoding.md R82). -/
theorem op_of_producesValue {i : Instr} (h : producesValue i = true) :
    i.fields.op = 0x1 ∨ i.fields.op = 0x3 ∨ i.fields.op = 0x6 ∨ i.fields.op = 0x7 ∨ i.fields.op = 0x8 ∨
      i.fields.op = 0x9 ∨ i.fields.op = 0xA := by
  cases i <;> simp_all [producesValue, Instr.fields]

/-- Settles O50: the step completes a command, and the commit of one that produces no value leaves `OUT`
and `RAW`. -/
theorem onlyValueCommandsWriteOut : Obligations.OnlyValueCommandsWriteOut := by
  intro s t hdue hstep hchanged
  obtain ⟨rest, hr, -⟩ | ⟨rs, -, hblock⟩ := step_cases hstep
  · simp [State.NoResetDue, hr] at hdue
  · obtain ⟨i, ran, hdone⟩ := completion_of_result_changed hblock (hchanged.imp_right .inl)
    have hvalue : producesValue i = true := by
      by_contra hno
      obtain ⟨hout, hraw⟩ :=
        commit_values_of_not_producesValue ran.advance (Bool.eq_false_of_not_eq_true hno)
      simp [hdone.result, hout, hraw, hdone.untouched.OUT, hdone.untouched.RAW] at hchanged
    obtain ⟨ok, present, err, hstatus, -⟩ := commit_STATUS i ran.advance
    refine ⟨hdone.running.1, hdone.idle, ?_, ?_⟩
    · simp [hdone.result, hstatus]
    · rw [hdone.LASTOP]
      exact op_of_producesValue hvalue

end Sys2Proof.Proofs.BlockState
end

section
/-! Steps of one command from its word on, with no reset to come: one rule for its acceptance and one for each
kind of micro-operation (40_engine.md R101, R105 to R112). -/

namespace Sys2Proof.Proofs.CommandRun
open Sys2Proof Sys2Proof.Machine

/-- The word of a command decodes to the command (30_encoding.md R90). -/
theorem decode_encode (i : Instr) : decode (encode i) = .legal i := by
  have hlegal : i.fields.wf = true := by
    cases i with
    | rdreg a => exact Laws.FieldsLegal.rdreg a
    | wrreg a d => exact Laws.FieldsLegal.wrreg a d
    | _ => decide
  have hopcode : opcodeInstr i.fields = some i := by cases i <;> rfl
  simp [decode, encode, legal_fieldsWord, hlegal, hopcode]

/-- A block issued a command accepts it in its next step (40_engine.md R101). -/
theorem step_of_issues {s : State} {i : Instr} {ws : List Word} (h : s.Issues (encode i) ws) :
    step s = .next (({ s with words := ws } : State).accept i.fields) := by
  rw [step_of_no_resets h.resets, stepBlock_of_word h.idle h.words (decode_encode i)]
  exact exec_of_idle i h.idle

/-- With no reset to come, a running command takes an engine step. -/
theorem step_of_running {s : State} {i : Instr} (hr : s.resets = []) (h : s.Running i) :
    step s = engineStep (prog s.config i) (commit i) s := by
  obtain ⟨hbusy, hcur⟩ := h
  have hd : decode (fieldsWord s.CUR) = .legal i := hcur ▸ decode_encode i
  rw [step_of_no_resets hr, stepBlock_of_busy hbusy hd, exec_of_running ⟨hbusy, hcur⟩]

/-- An answered micro-operation that does not complete the command goes on (40_engine.md R112). -/
theorem step_of_goesOn {s ran : State} {i : Instr} {m : MicroOp} (hr : s.resets = []) (h : s.AtOp i m)
    (hran : runMicroOp m s = some ran) (hc : completes (prog s.config i) m ran.advance = false) :
    step s = .next ran.advance := by
  obtain ⟨hrun, hm⟩ := h
  rw [step_of_running hr hrun, engineStep_of_answered hm hran, hc]
  rfl

/-- An answered micro-operation that completes the command commits its results (40_engine.md R109, R112). -/
theorem step_of_completes {s ran : State} {i : Instr} {m : MicroOp} (hr : s.resets = [])
    (h : s.AtOp i m) (hran : runMicroOp m s = some ran)
    (hc : completes (prog s.config i) m ran.advance = true) :
    step s = .next (commit i ran.advance).finish := by
  obtain ⟨hrun, hm⟩ := h
  rw [step_of_running hr hrun, engineStep_of_answered hm hran, hc]
  rfl

/-- Command `i` executes at `STEP = k` under the parameters `c`, with the answers `as` and `n` delays to come
and no reset. -/
structure Executes (i : Instr) (c : Config) (k : Nat) (as : List Answer) (n : Nat) (s : State) : Prop where
  running : s.Running i
  config : s.config = c
  STEP : s.STEP = k
  answers : s.answers = as
  delays : s.delays = n
  resets : s.resets = []

namespace Executes
variable {i : Instr} {c : Config} {k n : Nat} {as : List Answer} {s : State}

/-- A read that is answered fills its latches and goes on: no micro-program ends in an access
(40_engine.md R103, R105). -/
theorem read {num : BitVec 3} {a : Byte} {l : Latch} {ans : Answer}
    (h : Executes i c k (ans :: as) n s) (hm : (prog c i)[k]? = some (.rd num a l)) :
    ∃ t, step s = .next t ∧ Executes i c (k + 1) as n t ∧ t.B8 = ans.byte ∧
      t.M8 = if l = .m8 then ans.byte else s.M8 := by
  obtain ⟨hrun, rfl, rfl, hanswers, hdelays, hresets⟩ := h
  have hran := runMicroOp_rd num a l hanswers
  have hgoesOn := Bool.eq_false_of_not_eq_true fun hc =>
    nomatch BlockState.isDelay_of_completes hm hran hc
  exact ⟨_, step_of_goesOn hresets ⟨hrun, hm⟩ hran hgoesOn,
    ⟨by simpa [State.Running, State.busy] using hrun, by simp, by simp, by simp, by simpa, by simpa⟩,
    by simp, by simp⟩

/-- A completed delay of a command that is not aborting, with another operation to come, goes on
(40_engine.md R107, R112). -/
theorem gap {us : Nat} (h : Executes i c k as (n + 1) s) (hm : (prog c i)[k]? = some (.dly us))
    (hmore : k + 1 < (prog c i).length) (haborting : s.aborting = false) :
    ∃ t, step s = .next t ∧ Executes i c (k + 1) as n t ∧ t.B8 = s.B8 ∧ t.M8 = s.M8 := by
  obtain ⟨hrun, rfl, rfl, hanswers, hdelays, hresets⟩ := h
  refine ⟨_, step_of_goesOn hresets ⟨hrun, hm⟩ (runMicroOp_dly us hdelays) ?_,
    ⟨hrun, rfl, rfl, hanswers, rfl, hresets⟩, rfl, rfl⟩
  exact Bool.or_eq_false_iff.mpr ⟨haborting, beq_eq_false_iff_ne.mpr hmore.ne⟩

/-- The last delay of a micro-program completes the command (40_engine.md R109, R112). -/
theorem lastDelay {us : Nat} (h : Executes i c k as (n + 1) s) (hm : (prog c i)[k]? = some (.dly us))
    (hlast : k + 1 = (prog c i).length) :
    ∃ ran, step s = .next (commit i ran.advance).finish ∧ Untouched s ran ∧ ran.B8 = s.B8 ∧
      ran.M8 = s.M8 := by
  obtain ⟨hrun, rfl, rfl, hanswers, hdelays, hresets⟩ := h
  have hran := runMicroOp_dly us hdelays
  refine ⟨_, step_of_completes hresets ⟨hrun, hm⟩ hran ?_, (runMicroOp_cases hran).1, rfl, rfl⟩
  simp [completes, hlast]

end Executes

end Sys2Proof.Proofs.CommandRun
end

section
/-! The signed reading of a temperature (10_state.md R21, 43_decode_pipeline.md R167 to R171): the pipeline's
arithmetic, a decode command from its word to its result, and what the host reads. -/

namespace Sys2Proof.Proofs.Temperature
open Sys2Proof Sys2Proof.Machine Sys2Proof.Proofs.CommandRun

/-! ## The pipeline's arithmetic -/

/-- The assembled code is `256 * m + l` (43_decode_pipeline.md R163). -/
theorem assembleCode_toNat (m l : Byte) : (assembleCode m l).toNat = 256 * m.toNat + l.toNat := by
  have hm := m.isLt
  have hl := l.isLt
  have hlow : (zext16 l).toNat = l.toNat := by simp [zext16]; omega
  have hhigh : (zext16 m <<< 8).toNat = m.toNat <<< 8 := by
    simp [zext16, Nat.shiftLeft_eq]
    omega
  rw [assembleCode, BitVec.toNat_or, hlow, hhigh, ← Nat.shiftLeft_add_eq_or_of_lt hl, Nat.shiftLeft_eq]
  omega

/-- The 32-bit intermediate is exact for all 16-bit values (43_decode_pipeline.md R170, R171). -/
theorem scale32_toNat (code fs codeFs : BitVec 16) :
    (scale32 code fs codeFs).toNat = code.toNat * fs.toNat / codeFs.toNat := by
  have hproduct : code.toNat * fs.toNat < 2 ^ 32 := by
    simpa using Nat.mul_lt_mul'' code.isLt fs.isLt
  have hcode : code.toNat < 2 ^ 32 := code.isLt.trans (by decide)
  have hfs : fs.toNat < 2 ^ 32 := fs.isLt.trans (by decide)
  have hcodeFs : codeFs.toNat < 2 ^ 32 := codeFs.isLt.trans (by decide)
  simp only [scale32, BitVec.toNat_udiv, BitVec.toNat_mul, BitVec.toNat_setWidth, Nat.mod_eq_of_lt hcode,
    Nat.mod_eq_of_lt hfs, Nat.mod_eq_of_lt hcodeFs, Nat.mod_eq_of_lt hproduct]

/-- The scaled temperature as R171 writes it. -/
theorem scaleT_eq (c : Config) (code : Word) :
    scaleT c code =
      ((code.toNat * c.tfsCk.toNat / c.codeFs.toNat : Nat) : Int) - (c.toffCk.toNat : Int) := by
  rw [scaleT, scale32_toNat]

/-- For codes up to the full scale and parameters that meet R8, the scaled temperature survives its 16-bit
two's-complement form (43_decode_pipeline.md R173). -/
theorem s16Bits_scaleT_toInt {c : Config} {code : Word} (hwf : c.wf = true)
    (hcode : code.toNat ≤ c.codeFs.toNat) : (s16Bits (scaleT c code)).toInt = scaleT c code := by
  obtain ⟨-, -, htop, hbottom⟩ := (Scope.config_wf_iff c).mp hwf
  have hquotient : code.toNat * c.tfsCk.toNat / c.codeFs.toNat ≤ c.tfsCk.toNat :=
    Nat.div_le_of_le_mul (Nat.mul_le_mul_right _ hcode)
  rw [scaleT_eq]
  generalize code.toNat * c.tfsCk.toNat / c.codeFs.toNat = quotient at hquotient
  exact BitVec.toInt_ofInt_eq_self (by decide) (by omega) (by omega)

/-! ## A decode command -/

/-- Every decode command runs the micro-program of its register pair (43_decode_pipeline.md R161, R162). -/
theorem prog_of_decoderPair {i : Instr} {msb lsb : Byte} (h : decoderPair i = some (msb, lsb))
    (c : Config) : prog c i = progPair c msb lsb := by
  cases i <;> simp only [decoderPair, reduceCtorEq, Option.some.injEq, Prod.mk.injEq] at h <;>
    obtain ⟨rfl, rfl⟩ := h <;> rfl

/-- Every decode command commits its output and the code (43_decode_pipeline.md R164 to R169). -/
theorem commit_of_decoderPair {i : Instr} {pair : Byte × Byte} (h : decoderPair i = some pair)
    (s : State) : commit i s = s.putCode (decoderOut s.config i s.code) := by
  cases i <;> simp only [decoderPair, reduceCtorEq] at h <;> rfl

/-- No decode command aborts, under either policy (40_engine.md R104, R108). -/
theorem not_aborting_of_decoderPair {i : Instr} {pair : Byte × Byte} {s : State}
    (h : decoderPair i = some pair) (hcur : s.CUR = i.fields) : s.aborting = false := by
  cases i <;> simp only [decoderPair, reduceCtorEq] at h <;> simp [State.aborting, hcur, Instr.fields]

/-- A decode command from its word to its result: the output of the assembled code, read as its opcode
says (43_decode_pipeline.md R161 to R164). -/
theorem decoder_result {i : Instr} {msb lsb : Byte} {s : State} {ws : List Word} {a1 a2 : Answer}
    {rest : List Answer} (hpair : decoderPair i = some (msb, lsb)) (h : s.Issues (encode i) ws)
    (ha : s.answers = a1 :: a2 :: rest) (hd : 2 ≤ s.delays) :
    ∃ t, run 5 s = .next t ∧ t.OUT = decoderOut s.config i (assembleCode a1.byte a2.byte) ∧
      t.LASTOP = i.fields.op ∧ statusIllegal t.STATUS = false := by
  obtain ⟨n, hn⟩ := Nat.exists_eq_add_of_le' hd
  have hprog := prog_of_decoderPair hpair s.config
  have accepted : Executes i s.config 0 (a1 :: a2 :: rest) (n + 2)
      (({ s with words := ws } : State).accept i.fields) :=
    ⟨⟨by simp, rfl⟩, rfl, rfl, ha, hn, h.resets⟩
  obtain ⟨s1, readMsb, h1, -, hmsb⟩ := accepted.read (by rw [hprog]; rfl)
  obtain ⟨s2, gap, h2, -, hmsbGap⟩ := h1.gap (by rw [hprog]; rfl) (by simp [hprog, progPair])
    (not_aborting_of_decoderPair hpair h1.running.2)
  obtain ⟨s3, readLsb, h3, hlsb, hmsbRead⟩ := h2.read (by rw [hprog]; rfl)
  obtain ⟨ran, lastGap, hu, hlsbDone, hmsbDone⟩ := h3.lastDelay (by rw [hprog]; rfl) (by rw [hprog]; rfl)
  have hcode : ran.advance.code = assembleCode a1.byte a2.byte := by
    simp [State.code, hmsbDone, hmsbRead, hmsbGap, hmsb, hlsbDone, hlsb]
  refine ⟨(commit i ran.advance).finish, ?_, ?_, ?_, ?_⟩
  · rw [run_succ 4 (step_of_issues h), run_succ 3 readMsb, run_succ 2 gap, run_succ 1 readLsb,
      run_succ 0 lastGap, run_zero]
  · simp [commit_of_decoderPair hpair, hcode, hu.config, h3.config]
  · obtain ⟨-, -, hcur, -⟩ := commit_keeps i ran.advance
    simp [hcur, hu.CUR, h3.running.2]
  · obtain ⟨ok, present, err, hstatus, -⟩ := BlockState.commit_STATUS i ran.advance
    simp [hstatus]

/-! ## The host's reading -/

/-- After a temperature command the host reads `OUT` as signed (10_state.md R21, R242). -/
theorem outReading_of_temperature {v : HostView} (hlegal : statusIllegal v.STATUS = false)
    (hop : v.LASTOP = 0x8 ∨ v.LASTOP = 0xA) : v.outReading = some (.s16 v.OUT.toInt) := by
  rcases hop with hop | hop <;> simp [HostView.outReading, hlegal, hop]

/-- The two's-complement reading of an assembled code (43_decode_pipeline.md R167). -/
theorem assembleCode_toInt (m l : Byte) : (assembleCode m l).toInt =
    if 256 * m.toNat + l.toNat < 32768 then ((256 * m.toNat + l.toNat : Nat) : Int)
    else ((256 * m.toNat + l.toNat : Nat) : Int) - 65536 := by
  rw [BitVec.toInt_eq_toNat_cond, assembleCode_toNat]
  split <;> split <;> omega

/-- Settles O37: a decode command's result is its output for the assembled code; DECT's is the code itself,
and DECTS's survives its 16 bits because a code is at most the full scale. -/
theorem temperatureReadsSigned : Obligations.TemperatureReadsSigned := by
  rintro s i ws a1 a2 rest code (rfl | rfl) h ha hd hwf hfs rfl
  · obtain ⟨t, hrun, hout, hlastop, hlegal⟩ := decoder_result rfl h ha hd
    have houtCode : t.OUT = assembleCode a1.byte a2.byte := hout
    refine ⟨t, hrun, ?_⟩
    rw [outReading_of_temperature hlegal (.inl hlastop), if_pos rfl, ← assembleCode_toInt, ← houtCode]
    rfl
  · obtain ⟨t, hrun, hout, hlastop, hlegal⟩ := decoder_result rfl h ha hd
    have houtScaled : t.OUT = s16Bits (scaleT s.config (assembleCode a1.byte a2.byte)) := hout
    have hfull : s.config.codeFs.toNat = 65535 := congrArg BitVec.toNat hfs
    have hcode : (assembleCode a1.byte a2.byte).toNat ≤ s.config.codeFs.toNat :=
      hfull ▸ Nat.le_of_lt_succ (BitVec.isLt _)
    refine ⟨t, hrun, ?_⟩
    rw [outReading_of_temperature hlegal (.inr hlastop), if_neg (by decide), ← assembleCode_toNat, ← hfull,
      ← scaleT_eq, ← s16Bits_scaleT_toInt hwf hcode, ← houtScaled]
    rfl

end Sys2Proof.Proofs.Temperature
end

section
/-! The bus as a command uses it (20_memory.md R60 to R67): the shape of every event a step adds, one delay
micro-operation, the byte order of a pair, and the two register access commands from their word to their
result. -/

namespace Sys2Proof.Proofs.Memory
open Sys2Proof Sys2Proof.Machine

/-! ## The shape of a bus event -/

/-- From `s` to `t` the trace stays as it is or gains one event of the shape of 20_memory.md R60 to R66. -/
def AddsShapedEvent (s t : State) : Prop :=
  t.trace = s.trace ∨ ∃ e, t.trace = s.trace ++ [e] ∧ e.Shaped s.config

/-- The event of a read of one of the sixteen registers is shaped (20_memory.md R62, R64). -/
theorem shaped_readEvent (c : Config) {a : Byte} (ha : a.toNat < 16) (ans : Answer) :
    (readEvent c a ans).Shaped c :=
  ⟨rfl, .inl ⟨a, rfl, rfl, rfl, ha⟩⟩

/-- The event of a write of one of the sixteen registers is shaped (20_memory.md R62, R64). -/
theorem shaped_writeEvent (c : Config) {a : Byte} (v : Byte) (ha : a.toNat < 16) (ans : Answer) :
    (writeEvent c a v ans).Shaped c :=
  ⟨rfl, .inr ⟨a, v, rfl, rfl, rfl, ha⟩⟩

/-- Every delay of a micro-program has one of the two configured durations (40_engine.md R107,
42_device_control.md R132). -/
theorem prog_delay_duration {c : Config} {i : Instr} {us : Nat} (h : .dly us ∈ prog c i) :
    us = c.gapUs ∨ us = c.initUs := by
  cases i <;>
    simp_all [prog, progRdreg, progWrreg, progReadid, progInit, progRstq, progDecq, progDecv, progDect,
      progDecvs, progDects, progPair]

/-- An answered micro-operation of a command adds one shaped event: its address is one of the sixteen, or
its duration is configured. -/
theorem runMicroOp_adds_shapedEvent {i : Instr} {m : MicroOp} {s t : State} (hm : m ∈ prog s.config i)
    (hrun : runMicroOp m s = some t) : ∃ e, t.trace = s.trace ++ [e] ∧ e.Shaped s.config := by
  obtain ⟨-, haddr⟩ := prog_access_bounds hm
  obtain ⟨-, ⟨k, a, l, ans, rest, rfl, -, rfl⟩ | ⟨k, a, e, ans, rest, rfl, -, rfl⟩ |
    ⟨us, n, rfl, -, rfl⟩⟩ := runMicroOp_cases hrun
  · exact ⟨readEvent s.config a ans, by simp, shaped_readEvent _ (haddr a rfl) ans⟩
  · exact ⟨writeEvent s.config a (e.eval s) ans, by simp, shaped_writeEvent _ _ (haddr a rfl) ans⟩
  · exact ⟨.delay us, rfl, prog_delay_duration hm⟩

/-- An engine step adds the event of its micro-operation and no other: going on and completing leave the
trace. -/
theorem engineStep_addsShapedEvent {i : Instr} {s t : State}
    (h : engineStep (prog s.config i) (commit i) s = .next t) : AddsShapedEvent s t := by
  obtain ⟨m, hm, ⟨-, rfl⟩ | ⟨ran, hran, hend⟩⟩ := engineStep_cases h
  · exact .inl rfl
  · have htrace : t.trace = ran.trace := by
      obtain ⟨-, rfl⟩ | ⟨-, rfl⟩ := hend
      · rfl
      · obtain ⟨-, -, -, -, -, -, -, -, -, -, -, -, -, hcommit⟩ := commit_keeps i ran.advance
        exact hcommit
    rw [AddsShapedEvent, htrace]
    exact .inr (runMicroOp_adds_shapedEvent (List.mem_of_getElem? hm) hran)

/-- A block's step adds an event only while it runs a command. -/
theorem stepBlock_addsShapedEvent {s t : State} (h : stepBlock s = .next t) : AddsShapedEvent s t := by
  obtain ⟨-, -, rfl⟩ | ⟨-, -, i, -, -, -, rfl⟩ | ⟨-, -, op, -, -, -, rfl⟩ | ⟨i, -, -, hexec⟩ :=
    stepBlock_cases h
  · exact .inl rfl
  · exact .inl rfl
  · exact .inl rfl
  · obtain ⟨-, rfl⟩ | ⟨-, -, rfl⟩ | ⟨-, hengine⟩ := exec_cases hexec
    · exact .inl rfl
    · exact .inl rfl
    · exact engineStep_addsShapedEvent hengine

/-- Settles O46: a block reset adds no event, and any other step is the block's own. -/
theorem everyBusEventIsShaped : Obligations.EveryBusEventIsShaped := by
  intro s t hstep
  obtain ⟨rest, -, rfl⟩ | ⟨rs, -, hblock⟩ := step_cases hstep
  · exact .inl rfl
  · have hadds : AddsShapedEvent { s with resets := rs } t := stepBlock_addsShapedEvent hblock
    exact hadds

/-! ## A delay inside a command -/

/-- INIT and RSTQ are the commands with the opcodes 0x4 and 0x5 (30_encoding.md R82). -/
theorem op_init_or_rstq_iff (i : Instr) :
    i.fields.op = 0x4 ∨ i.fields.op = 0x5 ↔ i = .init ∨ i = .rstq := by
  cases i <;> simp [Instr.fields]

/-- A command is aborting exactly when the policy is ABORT_AND_REPORT, it is INIT or RSTQ, and an access of
it has failed (40_engine.md R108). -/
theorem aborting_iff {i : Instr} {s : State} (hcur : s.CUR = i.fields) :
    s.aborting = true ↔
      s.config.seqPolicy = .abortAndReport ∧ (i = .init ∨ i = .rstq) ∧ s.OKACC = false := by
  rw [← op_init_or_rstq_iff, ← hcur]
  simp [State.aborting, and_assoc]

/-- Settles O16: the delay neither aborts the command nor ends its micro-program, so the engine goes on. -/
theorem delayMicroOperation : Obligations.DelayMicroOperation := by
  intro i s us n ⟨hrun, hm⟩ hdelays hmore hpolicy
  have haborting : s.aborting = false := by
    refine Bool.eq_false_of_not_eq_true fun h => ?_
    obtain ⟨habort, hi, hfailed⟩ := (aborting_iff hrun.2).mp h
    exact Bool.false_ne_true (hfailed.symm.trans (hpolicy habort hi))
  rw [exec_of_running hrun, engineStep_of_answered hm (runMicroOp_dly us hdelays)]
  refine if_neg (Bool.eq_false_iff.mp ?_)
  exact Bool.or_eq_false_iff.mpr ⟨haborting, beq_eq_false_iff_ne.mpr hmore.ne⟩

/-! ## The byte order of a pair -/

/-- The byte of a code from bit `k` up, as a quotient and a remainder. -/
theorem byteOf_toNat (code : Word) (k : Nat) :
    (code.extractLsb' k 8).toNat = code.toNat / 2 ^ k % 256 := by
  rw [BitVec.extractLsb'_toNat, Nat.shiftRight_eq_div_pow]

/-- Settles O51: a code is the number `256 * m + l`, whose quotient and remainder by 256 are its bytes. -/
theorem assemblyIsBijective : Obligations.AssemblyIsBijective := by
  refine ⟨fun m l => ⟨Temperature.assembleCode_toNat m l, ?high, ?low⟩, fun code => ?assembled⟩
  case high =>
    apply BitVec.eq_of_toNat_eq
    rw [byteOf_toNat, Temperature.assembleCode_toNat]
    omega
  case low =>
    apply BitVec.eq_of_toNat_eq
    rw [byteOf_toNat, Temperature.assembleCode_toNat]
    omega
  case assembled =>
    apply BitVec.eq_of_toNat_eq
    rw [Temperature.assembleCode_toNat, byteOf_toNat, byteOf_toNat]
    omega

/-! ## Commands of one access -/

/-- A command of one access and one delay, from its word to its result: accepted, its access run, and
committed at the end of its delay (40_engine.md R101, R109, R112). -/
theorem run_of_oneAccess {i : Instr} {s ran : State} {ws : List Word} {m : MicroOp} {us n : Nat}
    (h : s.Issues (encode i) ws) (hprog : prog s.config i = [m, .dly us])
    (hran : runMicroOp m (({ s with words := ws } : State).accept i.fields) = some ran)
    (haccess : m.isDelay = false) (hdelays : ran.delays = n + 1) :
    run 3 s = .next
      (commit i { ran with STEP := 2, delays := n, trace := ran.trace ++ [.delay us] }).finish := by
  obtain ⟨hu, -⟩ := runMicroOp_cases hran
  have hconfig : ran.config = s.config := hu.config
  have hstep : ran.STEP = 0 := hu.STEP
  have atDelay : ran.advance.AtOp i (.dly us) :=
    ⟨⟨(congrArg statusBusy hu.STATUS).trans (State.accept_busy _ _), hu.CUR⟩,
      by simp [hconfig, hstep, hprog]⟩
  have access : step (({ s with words := ws } : State).accept i.fields) = .next ran.advance := by
    refine CommandRun.step_of_goesOn h.resets ⟨⟨State.accept_busy _ _, rfl⟩, ?_⟩ hran ?_
    · exact congrArg (·[0]?) hprog
    · simp [completes, haccess, hstep, hprog]
  have noResets : ran.advance.resets = [] := hu.resets.trans h.resets
  have lastDelay : step ran.advance = .next (commit i
      { ran with STEP := 2, delays := n, trace := ran.trace ++ [.delay us] }).finish := by
    rw [CommandRun.step_of_completes noResets atDelay (runMicroOp_dly us hdelays)
      (by simp [completes, hconfig, hstep, hprog])]
    simp [State.advance, hstep]
  rw [run_succ 2 (CommandRun.step_of_issues h), run_succ 1 access, run_succ 0 lastDelay, run_zero]

/-- Noting the outcome of a command's first access: the latches hold that outcome (10_state.md R36). -/
theorem noteOutcome_of_fresh {s : State} (ok : Bool) (k : BitVec 3) (hok : s.OKACC = true)
    (hfail : s.FAIL = 0) :
    noteOutcome ok k s = { s with OKACC := ok, FAIL := if ok then 0 else k } := by
  cases ok
  · simp [noteOutcome, State.noteFail, hfail]
  · simp [noteOutcome, ← hok, ← hfail]

/-- A command of one read that fills `B8` only, from its word to its commit (40_engine.md R101, R105). -/
theorem run_of_oneRead {i : Instr} {s : State} {ws : List Word} {a : Byte} {us n : Nat} {ans : Answer}
    {rest : List Answer} (h : s.Issues (encode i) ws)
    (hprog : prog s.config i = [.rd 1 a .none, .dly us]) (ha : s.answers = ans :: rest)
    (hd : s.delays = n + 1) :
    run 3 s = .next (commit i
      { s with
        words := ws, answers := rest, delays := n
        trace := s.trace ++ [readEvent s.config a ans, .delay us]
        CUR := i.fields, STEP := 2, STATUS := writeBusy s.STATUS true, B8 := ans.byte, OKACC := ans.ok
        FAIL := if ans.ok then 0 else 1 }).finish := by
  have hran := runMicroOp_rd (s := ({ s with words := ws } : State).accept i.fields) 1 a .none ha
  rw [noteOutcome_of_fresh _ _ rfl rfl] at hran
  rw [run_of_oneAccess h hprog hran rfl hd]
  simp [State.latchByte, State.accept]

/-- A command of one write, from its word to its commit; the byte sent is that of the expression at
acceptance (40_engine.md R101, R106). -/
theorem run_of_oneWrite {i : Instr} {s : State} {ws : List Word} {a : Byte} {e : WriteExpr} {us n : Nat}
    {ans : Answer} {rest : List Answer} (h : s.Issues (encode i) ws)
    (hprog : prog s.config i = [.wr 1 a e, .dly us]) (ha : s.answers = ans :: rest)
    (hd : s.delays = n + 1) :
    run 3 s = .next (commit i
      { s with
        words := ws, answers := rest, delays := n
        trace := s.trace ++ [writeEvent s.config a (e.eval (s.accept i.fields)) ans, .delay us]
        CUR := i.fields, STEP := 2, STATUS := writeBusy s.STATUS true, OKACC := ans.ok
        FAIL := if ans.ok then 0 else 1 }).finish := by
  have hran := runMicroOp_wr (s := ({ s with words := ws } : State).accept i.fields) 1 a e ha
  rw [noteOutcome_of_fresh _ _ rfl rfl] at hran
  rw [run_of_oneAccess h hprog hran rfl hd]
  cases e <;> simp [State.accept, WriteExpr.eval]

/-- Settles O31: RDREG's one read fills `B8`, and its commit copies the byte to `OUT` and `RAW`. -/
theorem rdregFromIssueToResult : Obligations.RdregFromIssueToResult := by
  intro a s ws ans rest n h ha hd
  refine ⟨_, ?_, statusIs_writeReport_writeBusy s.STATUS ans.ok false false (if ans.ok then 0 else 1)⟩
  rw [run_of_oneRead h rfl ha hd]
  simp [commit, commitRdreg, State.putByte, State.reportAccesses, State.finish, Instr.fields, zext16,
    regAddr]

/-- Settles O32: WRREG's one write sends the latched operand byte, and its commit writes the report only. -/
theorem wrregFromIssueToResult : Obligations.WrregFromIssueToResult := by
  intro a d s ws ans rest n h ha hd
  refine ⟨_, ?_, statusIs_writeReport_writeBusy s.STATUS ans.ok false false (if ans.ok then 0 else 1)⟩
  rw [run_of_oneWrite h rfl ha hd]
  simp [commit, commitWrreg, State.reportAccesses, State.finish, Instr.fields, WriteExpr.eval, regAddr]

end Sys2Proof.Proofs.Memory
end

section
/-! The command words (30_encoding.md R81 to R90): the legal ones are the words of the commands, every other
word is illegal with its opcode field, and the assembler's names and pseudo-commands. -/

namespace Sys2Proof.Proofs.Encoding
open Sys2Proof Sys2Proof.Machine

/-! ## The words of the commands -/

/-- Settles O2: the fields of a command pass the check of R84, and its opcode names the command again. -/
theorem decodeOfEncode : Obligations.DecodeOfEncode :=
  CommandRun.decode_encode

/-- The well-formed fields by the three forms of a command: RDREG's address, WRREG's address and byte, no
operand (R83, R84). -/
theorem fields_wf_cases {f : CmdFields} (h : f.wf = true) :
    (f.op = 1 ∧ f.d = 0) ∨ f.op = 2 ∨
      ((3 ≤ f.op.toNat ∧ f.op.toNat ≤ 10) ∧ f.a = 0 ∧ f.d = 0) := by
  simp only [CmdFields.wf, Bool.and_eq_true, Bool.or_eq_true, beq_iff_eq, decide_eq_true_eq] at h
  obtain ⟨⟨⟨hlow, hhigh⟩, ha⟩, hd⟩ := h
  by_cases h1 : f.op = 1
  · exact .inl ⟨h1, hd.resolve_left (by simp [h1])⟩
  by_cases h2 : f.op = 2
  · exact .inr (.inl h2)
  have hne1 : f.op.toNat ≠ 1 := fun h => h1 (BitVec.eq_of_toNat_eq h)
  have hne2 : f.op.toNat ≠ 2 := fun h => h2 (BitVec.eq_of_toNat_eq h)
  exact .inr (.inr ⟨by omega, ha.resolve_left (not_or_intro h1 h2), hd.resolve_left h2⟩)

/-- Each of the opcodes 0x3 to 0xA is that of a command without operands (R82). -/
theorem exists_fields_eq_of_opcode : ∀ op : Nibble, 3 ≤ op.toNat ∧ op.toNat ≤ 10 →
    ∃ i ∈ [Instr.readid, .init, .rstq, .decq, .decv, .dect, .decvs, .dects],
      i.fields = { op := op, a := 0, d := 0 } := by
  decide

/-- Well-formed fields are the fields of a command. -/
theorem exists_fields_eq_of_wf {f : CmdFields} (h : f.wf = true) : ∃ i : Instr, i.fields = f := by
  have hcases := fields_wf_cases h
  obtain ⟨op, a, d⟩ := f
  obtain ⟨rfl, rfl⟩ | rfl | ⟨hop, rfl, rfl⟩ := hcases
  · exact ⟨.rdreg a, rfl⟩
  · exact ⟨.wrreg a d, rfl⟩
  · obtain ⟨i, -, hi⟩ := exists_fields_eq_of_opcode op hop
    exact ⟨i, hi⟩

/-- A legal word is the word of a command: its fields are well-formed. -/
theorem exists_encode_eq_of_legal {w : Word} (h : legal w = true) : ∃ i, encode i = w := by
  have hwf : (wordFields w).wf = true := by rw [← legal_fieldsWord, fieldsWord_wordFields, h]
  obtain ⟨i, hi⟩ := exists_fields_eq_of_wf hwf
  exact ⟨i, by rw [encode, hi, fieldsWord_wordFields]⟩

/-- A word that is not legal decodes to "illegal" with its `OP` field (R90). -/
theorem decode_of_not_legal {w : Word} (h : legal w = false) :
    decode w = .illegal (w.extractLsb' 12 4) := by
  simp [decode, h, wordFields]

/-- A word that decodes to a command is legal. -/
theorem legal_of_decode {w : Word} {i : Instr} (h : decode w = .legal i) : legal w = true := by
  refine Bool.eq_true_of_not_eq_false fun hillegal => ?_
  rw [decode_of_not_legal hillegal] at h
  nomatch h

/-- The decoder inverts the encoder on the words of the commands (R90). -/
theorem decode_eq_legal_iff (w : Word) (i : Instr) : decode w = .legal i ↔ encode i = w := by
  constructor
  · intro h
    obtain ⟨j, rfl⟩ := exists_encode_eq_of_legal (legal_of_decode h)
    have hji : j = i := Decoded.legal.inj ((CommandRun.decode_encode j).symm.trans h)
    rw [hji]
  · rintro rfl
    exact CommandRun.decode_encode i

/-- Settles O3: a legal word has the fields of a command, and decoding a command's word gives the command
back, so no two commands share a word. -/
theorem legalWordsAreTheEncodings : Obligations.LegalWordsAreTheEncodings := by
  refine fun w => ⟨⟨exists_encode_eq_of_legal, ?_⟩, decode_eq_legal_iff w⟩
  rintro ⟨i, hi⟩
  exact legal_of_decode ((decode_eq_legal_iff w i).mpr hi)

/-! ## The illegal words -/

/-- `legal(w)` as R84 writes it, with `OP` read as a number. -/
theorem legal_iff (w : Word) : legal w = true ↔
    ((w.extractLsb' 12 4).toNat = 1 ∧ w.extractLsb' 0 8 = 0) ∨ (w.extractLsb' 12 4).toNat = 2 ∨
      ((3 ≤ (w.extractLsb' 12 4).toNat ∧ (w.extractLsb' 12 4).toNat ≤ 10) ∧
        w.extractLsb' 0 12 = 0) := by
  simp only [legal, Bool.or_eq_true, Bool.and_eq_true, beq_iff_eq, decide_eq_true_eq, or_assoc,
    ← BitVec.toNat_inj (x := w.extractLsb' 12 4)]
  rfl

/-- Settles O4: a word of each of R85's forms fails every alternative of R84, by its opcode or by the field
that must be zero. -/
theorem illegalWordsKeepTheirOpcode : Obligations.IllegalWordsKeepTheirOpcode := by
  intro w
  have not_legal := Bool.eq_false_of_not_eq_true (b := legal w) ∘ mt (legal_iff w).mp
  refine ⟨decode_of_not_legal, fun hop => not_legal ?reserved, fun ⟨hop, hd⟩ => not_legal ?rdreg,
    fun ⟨hop, hlow⟩ => not_legal ?noOperands⟩
  case reserved =>
    have hnum : (w.extractLsb' 12 4).toNat = 0 ∨ 11 ≤ (w.extractLsb' 12 4).toNat :=
      hop.imp_left (congrArg BitVec.toNat)
    rintro (⟨h1, -⟩ | h2 | ⟨hrange, -⟩) <;> omega
  case rdreg =>
    have hnum : (w.extractLsb' 12 4).toNat = 1 := congrArg BitVec.toNat hop
    rintro (⟨-, hzero⟩ | h2 | ⟨hrange, -⟩)
    · exact hd hzero
    · omega
    · omega
  case noOperands =>
    rintro (⟨h1, -⟩ | h2 | ⟨-, hzero⟩)
    · omega
    · omega
    · exact hlow hzero

/-! ## The examples and the assembler -/

/-- Settles O1: the decoder is evaluated on each word. -/
theorem exampleWordsDecode : Obligations.ExampleWordsDecode := by
  unfold Obligations.ExampleWordsDecode
  decide

/-- The pseudo-commands of R89, each one line. -/
theorem assembleLine_pseudoCommands :
    assembleLine "RDSTAT".toList = .command (.rdreg 0x0) ∧
    assembleLine "RDCTRL ; control".toList = .command (.rdreg 0x1) ∧
    assembleLine "WRCTRL 0x3C".toList = .command (.wrreg 0x1 0x3C) := by
  decide

/-- A line that holds a command puts its word before those of the lines after it. -/
theorem assembleText_cons_of_command {line : List Char} {lines : List (List Char)} {i : Instr}
    (h : assembleLine line = .command i) :
    assembleText (line :: lines) = (assembleText lines).map (encode i :: ·) := by
  rw [assembleText, h]
  cases assembleText lines <;> rfl

/-- RDREG with a name of the register table is RDREG of that register's address (R88). -/
theorem assembleLine_rdreg_name : ∀ r ∈ chipRegs,
    assembleLine ("RDREG ".toList ++ r.name.toList) = .command (.rdreg r.addr) := by
  decide

/-- Settles O5: a text of the three pseudo-commands assembles line by line, and each register name is looked
up in the table. -/
theorem assemblerNamesAndPseudoCommands : Obligations.AssemblerNamesAndPseudoCommands := by
  refine ⟨?pseudo, assembleLine_rdreg_name, ?addresses, ?binary, ?badReg, ?badByte⟩
  case pseudo =>
    obtain ⟨hstat, hctrl, hwr⟩ := assembleLine_pseudoCommands
    rw [assembleText_cons_of_command hstat, assembleText_cons_of_command hctrl,
      assembleText_cons_of_command hwr]
    decide
  case addresses => decide
  case binary => decide
  case badReg => decide
  case badByte => decide

end Sys2Proof.Proofs.Encoding
end

section
/-! The command port and the engine (40_engine.md R100 to R114): acceptance and refusal, one rule for each kind
of micro-operation, what a step of a busy block can do, waiting, and the failure policy. -/

namespace Sys2Proof.Proofs.Engine
open Sys2Proof Sys2Proof.Machine

/-! ## The command port -/

/-- A running block runs the command in `CUR`. -/
theorem stepBlock_of_running {i : Instr} {s : State} (h : s.Running i) : stepBlock s = exec i s := by
  obtain ⟨hbusy, hcur⟩ := h
  exact stepBlock_of_busy hbusy (hcur ▸ CommandRun.decode_encode i)

/-- With no reset to come, the step of a running block is the meaning of its command. -/
theorem step_eq_exec_of_running {i : Instr} {s : State} (hresets : s.resets = []) (h : s.Running i) :
    step s = exec i s := by
  rw [step_of_no_resets hresets, stepBlock_of_running h]

/-- Settles O10: with no reset due the step is the block's, which the decoded word or `CUR` decides. -/
theorem stepRunsTheDecodedCommand : Obligations.StepRunsTheDecodedCommand := by
  intro s later hlater
  rw [step_of_resetsLater hlater]
  refine ⟨fun w ws i hidle hwords hd => ?word, fun i hrun => ?running, fun hidle hwords => ?noWord⟩
  case word => exact stepBlock_of_word (s := { s with resets := later }) hidle hwords hd
  case running => exact stepBlock_of_running (s := { s with resets := later }) hrun
  case noWord => exact stepBlock_of_no_word (s := { s with resets := later }) hidle hwords

/-- Settles O11: acceptance latches the fields of the word the command came from, and `BUSY` is bit 7. -/
theorem legalWordIsAccepted : Obligations.LegalWordIsAccepted := by
  intro w i s hd hidle
  have hfields : i.fields = wordFields w := by
    rw [← (Encoding.decode_eq_legal_iff w i).mp hd, encode, wordFields_fieldsWord]
  refine ⟨writeBusy s.STATUS true, ?_, statusBusy_writeBusy _ _, writeBusy_low _ _⟩
  rw [exec_of_idle i hidle, hfields]
  rfl

/-- Settles O12: the word decodes to "illegal" with its opcode, and the refusal writes the report and
`LASTOP`; `BUSY` was 0 and stays so. -/
theorem illegalWordIsRefused : Obligations.IllegalWordIsRefused := by
  intro s later w ws hlater hidle hwords hillegal
  refine ⟨writeReport s.STATUS false false true 0, ?_, ?_⟩
  · rw [step_of_resetsLater hlater]
    exact stepBlock_of_illegal (s := { s with resets := later }) hidle hwords
      (Encoding.decode_of_not_legal hillegal)
  · exact ⟨statusOk_writeReport .., statusPresent_writeReport .., statusIllegal_writeReport ..,
      statusReserved_writeReport .., statusErrstep_writeReport .., (statusBusy_writeReport ..).trans hidle⟩

/-- A command other than the one executing changes nothing (entry 1). -/
theorem exec_of_other {i : Instr} {s : State} (hbusy : s.busy = true) (hcur : s.CUR ≠ i.fields) :
    exec i s = .next s := by
  simp [exec_eq_runCommand, runCommand, hbusy, hcur]

/-- Everything a step of a busy block without a due reset can do: wait, go on or complete. -/
theorem stepBlock_busy_cases {s t : State} (hbusy : s.busy = true) (h : stepBlock s = .next t) :
    t = s ∨ (∃ i m ran, BlockState.GoesOn i m s ran t) ∨ ∃ i ran, BlockState.Completion i s ran t := by
  have not_idle : ¬ s.Idle := by simp [State.Idle, hbusy]
  obtain ⟨hidle, -⟩ | ⟨-, -, -, hidle, -⟩ | ⟨-, -, -, hidle, -⟩ | ⟨i, -, -, hexec⟩ := stepBlock_cases h
  · exact absurd hidle not_idle
  · exact absurd hidle not_idle
  · exact absurd hidle not_idle
  · obtain ⟨hidle, -⟩ | ⟨-, -, rfl⟩ | ⟨hrun, -⟩ := exec_cases hexec
    · exact absurd hidle not_idle
    · exact .inl rfl
    · obtain rfl | hgo | ⟨ran, hdone⟩ := BlockState.exec_running_cases hrun hexec
      · exact .inl rfl
      · exact .inr (.inl ⟨i, hgo⟩)
      · exact .inr (.inr ⟨i, ran, hdone⟩)

/-- Settles O13: a busy block waits, goes on or completes, and none of the three takes a word. -/
theorem wordWaitsWhileBusy : Obligations.WordWaitsWhileBusy := by
  refine fun s hbusy => ⟨fun t hstep => ?_, fun i => exec_of_other hbusy⟩
  obtain ⟨rest, -, rfl⟩ | ⟨rs, -, hblock⟩ := step_cases hstep
  · rfl
  · obtain rfl | ⟨i, m, ran, hgo⟩ | ⟨i, ran, hdone⟩ :=
      stepBlock_busy_cases (s := { s with resets := rs }) hbusy hblock
    · rfl
    · obtain ⟨hu, -⟩ := runMicroOp_cases hgo.ranTo
      rw [hgo.result]
      exact hu.words
    · obtain ⟨-, -, -, -, -, -, -, -, -, hwords, -⟩ := commit_keeps i ran.advance
      rw [hdone.result]
      exact hwords.trans hdone.untouched.words

/-! ## What a step of a busy block leaves -/

/-- Settles O19: the step waits, goes on with the next micro-operation, or completes the command. -/
theorem stepIndexAdvancesByOne : Obligations.StepIndexAdvancesByOne := by
  intro s t hbusy hdue hstep
  obtain ⟨rest, hr, -⟩ | ⟨rs, -, hblock⟩ := step_cases hstep
  · simp [State.NoResetDue, hr] at hdue
  · obtain rfl | ⟨i, m, ran, hgo⟩ | ⟨i, ran, hdone⟩ :=
      stepBlock_busy_cases (s := { s with resets := rs }) hbusy hblock
    · exact ⟨rfl, .inl ⟨hbusy, rfl, rfl⟩⟩
    · obtain ⟨hu, -⟩ := runMicroOp_cases hgo.ranTo
      rw [hgo.result]
      exact ⟨hu.CUR, .inr (.inl ⟨(congrArg statusBusy hu.STATUS).trans hbusy, congrArg (· + 1) hu.STEP⟩)⟩
    · obtain ⟨-, -, hcur, -⟩ := commit_keeps i ran.advance
      refine ⟨?_, .inr (.inr ⟨hdone.idle, by rw [hdone.result]; rfl⟩)⟩
      rw [hdone.result]
      exact hcur.trans hdone.untouched.CUR

/-- Settles O20: a reset, a refusal and a completion leave the block idle; acceptance writes `BUSY` only, and
a micro-operation that goes on leaves every host-visible register. -/
theorem resultsOnlyAtCompletion : Obligations.ResultsOnlyAtCompletion := by
  intro s t hstep hbusy
  obtain ⟨rest, -, rfl⟩ | ⟨rs, -, hblock⟩ := step_cases hstep
  · simp [State.busy, statusBusy] at hbusy
  · obtain rfl | ⟨ws, i, rfl⟩ | ⟨ws, op, hidle, rfl⟩ | ⟨i, m, ran, hgo⟩ | ⟨i, ran, hdone⟩ :=
      BlockState.stepBlock_micro_cases hblock
    · exact ⟨rfl, rfl, rfl, rfl, rfl⟩
    · exact ⟨rfl, rfl, rfl, rfl, writeBusy_low _ _⟩
    · simp_all [State.Idle, State.busy]
    · obtain ⟨hu, -⟩ := runMicroOp_cases hgo.ranTo
      rw [hgo.result]
      exact ⟨hu.OUT, hu.RAW, hu.SAVED, hu.LASTOP, congrArg (BitVec.setWidth 7) hu.STATUS⟩
    · exact absurd (hdone.idle.symm.trans hbusy) Bool.false_ne_true

/-- An engine step inside the micro-program answers a state: it waits, goes on or completes
(40_engine.md R113). -/
theorem exists_engineStep_eq {p : List MicroOp} {s : State} (c : State → State)
    (h : s.STEP < p.length) : ∃ t, engineStep p c s = .next t := by
  have hm : p[s.STEP]? = some p[s.STEP] := List.getElem?_eq_getElem h
  rcases hran : runMicroOp p[s.STEP] s with _ | ran
  · exact ⟨s, engineStep_of_unanswered hm hran⟩
  · rw [engineStep_of_answered hm hran]
    split
    · exact ⟨_, rfl⟩
    · exact ⟨_, rfl⟩

/-- A block's step from a state that meets the invariant answers a state. -/
theorem exists_stepBlock_eq {s : State} (h : s.Inv) : ∃ t, stepBlock s = .next t := by
  by_cases hbusy : s.busy = true
  · obtain ⟨i, hcur, hstep⟩ := h.running hbusy
    rw [stepBlock_of_running ⟨hbusy, hcur⟩, exec_of_running ⟨hbusy, hcur⟩]
    exact exists_engineStep_eq _ hstep
  · have hidle : s.Idle := Bool.eq_false_of_not_eq_true hbusy
    rcases hwords : s.words with _ | ⟨w, ws⟩
    · exact ⟨s, stepBlock_of_no_word hidle hwords⟩
    · rcases hd : decode w with i | op
      · exact ⟨_, (stepBlock_of_word hidle hwords hd).trans (exec_of_idle i hidle)⟩
      · exact ⟨_, stepBlock_of_illegal hidle hwords hd⟩

/-- Settles O45: a reset answers a state, and so does the block's step, since `STEP` points into the
micro-program of a legal command. -/
theorem machineNeverStops : Obligations.MachineNeverStops := by
  intro s h
  rcases hr : s.resets with _ | ⟨_ | n, rest⟩
  · exact step_of_no_resets hr ▸ exists_stepBlock_eq h
  · exact ⟨_, by unfold step; rw [hr]⟩
  · rw [step_of_resetsLater (.inr ⟨n, rest, hr, rfl⟩)]
    exact exists_stepBlock_eq (BlockState.inv_withEnvironment h s.words (n :: rest))

/-! ## The micro-operations -/

/-- A delay is one of some duration. -/
theorem exists_eq_dly {m : MicroOp} (h : m.isDelay = true) : ∃ us, m = .dly us := by
  cases m with
  | rd => cases h
  | wr => cases h
  | dly us => exact ⟨us, rfl⟩

/-- An answered access goes on: no micro-program ends in one (40_engine.md R103, R112). -/
theorem exec_of_access {i : Instr} {m : MicroOp} {s ran : State} (h : s.AtOp i m)
    (hran : runMicroOp m s = some ran) (haccess : m.isDelay = false) : exec i s = .next ran.advance := by
  obtain ⟨hrun, hm⟩ := h
  rw [exec_of_running hrun, engineStep_of_answered hm hran, if_neg]
  intro hc
  exact Bool.false_ne_true (haccess.symm.trans (BlockState.isDelay_of_completes hm hran hc))

/-- Noting an outcome: `OKACC` and the number of the first failed access (10_state.md R36). -/
theorem noteOutcome_eq (ok : Bool) (k : BitVec 3) (s : State) :
    noteOutcome ok k s =
      { s with OKACC := s.OKACC && ok, FAIL := if ok = false ∧ s.FAIL = 0 then k else s.FAIL } := by
  cases ok
  · simp [noteOutcome, State.noteFail]
  · simp [noteOutcome]

/-- What a read fills (40_engine.md R105). -/
theorem latchByte_eq (s : State) (l : Latch) (b : Byte) :
    s.latchByte l b =
      { s with
        B8 := b, M8 := if l = .m8 then b else s.M8, S8 := if l = .s8 then b else s.S8 } := by
  cases l <;> rfl

/-- Settles O14: the answered read fills its latches and notes its outcome, and an access goes on. -/
theorem readMicroOperation : Obligations.ReadMicroOperation := by
  intro i s k a l ans rest h hanswers
  rw [exec_of_access h (runMicroOp_rd k a l hanswers) rfl, noteOutcome_eq, latchByte_eq]
  rfl

/-- An answered write of a running command sends the value of its expression and notes its outcome
(40_engine.md R106). -/
theorem exec_of_write {i : Instr} {s : State} {k : BitVec 3} {a : Byte} {e : WriteExpr} {ans : Answer}
    {rest : List Answer} (h : s.AtOp i (.wr k a e)) (hanswers : s.answers = ans :: rest) :
    exec i s = .next
      { s with
        answers := rest, trace := s.trace ++ [writeEvent s.config a (e.eval s) ans]
        OKACC := s.OKACC && ans.ok
        FAIL := if ans.ok = false ∧ s.FAIL = 0 then k else s.FAIL
        STEP := s.STEP + 1 } := by
  rw [exec_of_access h (runMicroOp_wr k a e hanswers) rfl, noteOutcome_eq]
  rfl

/-- Settles O15: the answered write sends the value of its expression in the state it is issued from. -/
theorem writeMicroOperation : Obligations.WriteMicroOperation := by
  intro i s k a e ans rest h hanswers
  refine ⟨e.eval s, exec_of_write h hanswers, ?curD, ?initCtrl, ?zero, ?s8Shutdown, ?s8⟩
  all_goals rintro rfl; rfl

/-! ## Waiting -/

/-- Settles O18: the micro-operation is not answered, so the engine step, and with no reset to come the whole
step, answers the same state. -/
theorem unansweredBlockWaitsForEver : Obligations.UnansweredBlockWaitsForEver := by
  intro s i m ⟨hrun, hm⟩ hdelay haccess
  have hwaits : runMicroOp m s = none := by
    refine (runMicroOp_eq_none_iff m s).mpr fun hanswered => ?_
    cases m with
    | rd => exact hanswered (haccess rfl)
    | wr => exact hanswered (haccess rfl)
    | dly => exact hanswered (hdelay rfl)
  have hexec : exec i s = .next s := by
    rw [exec_of_running hrun, engineStep_of_unanswered hm hwaits]
  exact ⟨hexec, fun hresets => run_of_step_self ((step_eq_exec_of_running hresets hrun).trans hexec)⟩

/-! ## The micro-programs -/

/-- The number of the operation at index `n` of a micro-program: accesses are numbered 1, 2, ...
(40_engine.md R103). -/
def numberAt (n : Nat) : Option (BitVec 3) :=
  if n % 2 = 0 then some (BitVec.ofNat 3 (n / 2 + 1)) else none

/-- The numbers of a micro-program's operations (40_engine.md R103). -/
theorem prog_numbers (c : Config) (i : Instr) :
    (prog c i).map MicroOp.number = (List.range (prog c i).length).map numberAt := by
  cases i <;>
    simp [prog, progRdreg, progWrreg, progReadid, progInit, progRstq, progDecq, progDecv, progDect,
      progDecvs, progDects, progPair, MicroOp.number, numberAt, List.range_succ]

/-- The number of one operation of a micro-program (40_engine.md R103). -/
theorem prog_number {c : Config} {i : Instr} {n : Nat} {m : MicroOp} (h : (prog c i)[n]? = some m) :
    m.number = numberAt n := by
  obtain ⟨hn, rfl⟩ := List.getElem?_eq_some_iff.mp h
  have hk := congrArg (fun l => l[n]?) (prog_numbers c i)
  simpa [List.getElem?_map, hn] using hk

/-- The duration of a command's delays: the settle delay for INIT, the gap for the others (40_engine.md
R107, 42_device_control.md R132). -/
theorem delay_duration {c : Config} {i : Instr} {us : Nat} (h : .dly us ∈ prog c i) :
    us = if i = .init then c.initUs else c.gapUs := by
  cases i <;>
    simp_all [prog, progRdreg, progWrreg, progReadid, progInit, progRstq, progDecq, progDecv, progDect,
      progDecvs, progDects, progPair]

/-- The delay at each odd index of a micro-program (40_engine.md R103, R107). -/
theorem prog_odd {c : Config} {i : Instr} {n : Nat} {m : MicroOp} (h : (prog c i)[n]? = some m)
    (hodd : n % 2 = 1) : m = .dly (if i = .init then c.initUs else c.gapUs) := by
  have hdelay : m.isDelay = true := by simp [prog_isDelay_iff_odd h, hodd]
  obtain ⟨us, rfl⟩ := exists_eq_dly hdelay
  rw [delay_duration (List.mem_of_getElem? h)]

/-- Settles O17: the accesses are numbered by their index, a program's even length puts an operation after
each, and the odd indices hold the delays. -/
theorem programsAlternateAccessAndDelay : Obligations.ProgramsAlternateAccessAndDelay := by
  refine fun c i n m h => ⟨fun heven => ⟨?_, ?_⟩, prog_odd h⟩
  · rw [prog_number h, numberAt, if_pos heven]
  · obtain ⟨hn, -⟩ := List.getElem?_eq_some_iff.mp h
    obtain ⟨hlength, -⟩ := prog_length c i
    omega

/-! ## The failure policy -/

/-- No micro-program depends on the policy (40_engine.md R104). -/
theorem prog_withPolicy (s : State) (p : SeqPolicy) (i : Instr) :
    prog (s.withPolicy p).config i = prog s.config i := by
  cases i <;> rfl

/-- A micro-operation runs alike under either policy. -/
theorem runMicroOp_withPolicy (m : MicroOp) (s : State) (p : SeqPolicy) :
    runMicroOp m (s.withPolicy p) = (runMicroOp m s).map (·.withPolicy p) := by
  have hanswers : (s.withPolicy p).answers = s.answers := rfl
  have hdelays : (s.withPolicy p).delays = s.delays := rfl
  cases m with
  | rd k a l =>
    rcases ha : s.answers with _ | ⟨ans, rest⟩
    · simp [runMicroOp, memRead, exchange, hanswers, ha]
    · rw [runMicroOp_rd k a l ha, runMicroOp_rd k a l (hanswers.trans ha), noteOutcome_eq, noteOutcome_eq,
        latchByte_eq, latchByte_eq]
      rfl
  | wr k a e =>
    rcases ha : s.answers with _ | ⟨ans, rest⟩
    · simp [runMicroOp, memWrite, exchange, hanswers, ha]
    · rw [runMicroOp_wr k a e ha, runMicroOp_wr k a e (hanswers.trans ha), noteOutcome_eq, noteOutcome_eq]
      cases e <;> rfl
  | dly us =>
    rcases hd : s.delays with _ | n
    · simp [runMicroOp, delay, hdelays, hd]
    · rw [runMicroOp_dly us hd, runMicroOp_dly us (hdelays.trans hd)]
      rfl

/-- The commit of a command other than INIT and RSTQ does not read the policy (40_engine.md R104). -/
theorem commit_withPolicy {i : Instr} (hinit : i ≠ .init) (hrstq : i ≠ .rstq) (s : State)
    (p : SeqPolicy) : commit i (s.withPolicy p) = (commit i s).withPolicy p := by
  cases i with
  | init => exact absurd rfl hinit
  | rstq => exact absurd rfl hrstq
  | _ => rfl

/-- A command other than INIT and RSTQ never aborts (40_engine.md R108). -/
theorem not_aborting {i : Instr} {s : State} (hinit : i ≠ .init) (hrstq : i ≠ .rstq)
    (hcur : s.CUR = i.fields) : s.aborting = false := by
  refine Bool.eq_false_of_not_eq_true fun h => ?_
  obtain ⟨-, rfl | rfl, -⟩ := (Memory.aborting_iff hcur).mp h
  · exact hinit rfl
  · exact hrstq rfl

/-- Settles O21: neither the micro-program, nor a micro-operation, nor the end of the command, nor its commit
depends on the policy. -/
theorem policyGovernsOnlyInitAndRstq : Obligations.PolicyGovernsOnlyInitAndRstq := by
  intro i p s t hinit hrstq h
  obtain ⟨hidle, rfl⟩ | ⟨hbusy, hcur, rfl⟩ | ⟨hrun, hengine⟩ := exec_cases h
  · exact exec_of_idle i (s := s.withPolicy p) hidle
  · exact exec_of_other (s := t.withPolicy p) hbusy hcur
  · obtain ⟨m, hm, hend⟩ := engineStep_cases hengine
    have hrunPolicy : (s.withPolicy p).Running i := hrun
    have hmPolicy : (prog s.config i)[(s.withPolicy p).STEP]? = some m := hm
    rw [exec_of_running hrunPolicy, prog_withPolicy]
    obtain ⟨hwaits, rfl⟩ | ⟨ran, hran, hend⟩ := hend
    · exact engineStep_of_unanswered hmPolicy (by rw [runMicroOp_withPolicy, hwaits]; rfl)
    · have hranPolicy : runMicroOp m (s.withPolicy p) = some (ran.withPolicy p) := by
        rw [runMicroOp_withPolicy, hran]
        rfl
      have hcur : ran.advance.CUR = i.fields := (runMicroOp_cases hran).1.CUR.trans hrun.2
      have hcompletes : completes (prog s.config i) m (ran.withPolicy p).advance =
          completes (prog s.config i) m ran.advance := by
        have hcurPolicy : (ran.withPolicy p).advance.CUR = i.fields := hcur
        rw [completes, completes, not_aborting hinit hrstq hcur, not_aborting hinit hrstq hcurPolicy]
        rfl
      rw [engineStep_of_answered hmPolicy hranPolicy, hcompletes]
      obtain ⟨hc, rfl⟩ | ⟨hc, rfl⟩ := hend
      · rw [hc]
        rfl
      · rw [if_pos hc, show (ran.withPolicy p).advance = ran.advance.withPolicy p from rfl,
          commit_withPolicy hinit hrstq]
        rfl

/-! ## Completion within a bound -/

/-- What an answered micro-operation takes from its environment: one answer for an access, one completion for
a delay. -/
theorem environment_of_runMicroOp {m : MicroOp} {s ran : State} (h : runMicroOp m s = some ran) :
    s.answers.length = ran.answers.length + (if m.isDelay then 0 else 1) ∧
      s.delays = ran.delays + (if m.isDelay then 1 else 0) := by
  obtain ⟨-, ⟨k, a, l, ans, rest, rfl, hanswers, rfl⟩ | ⟨k, a, w, ans, rest, rfl, hanswers, rfl⟩ |
    ⟨us, n, rfl, hdelays, rfl⟩⟩ := runMicroOp_cases h
  · simp [hanswers, MicroOp.isDelay]
  · simp [hanswers, MicroOp.isDelay]
  · simp [hdelays, MicroOp.isDelay]

/-- Command `i` executes with `r` operations to come, and the environment answers them all: an answer for
each second one and a delay for the others (40_engine.md R103, R114). -/
structure Supplied (i : Instr) (r : Nat) (s : State) : Prop where
  running : s.Running i
  resets : s.resets = []
  pending : 0 < r
  remaining : s.STEP + r = (prog s.config i).length
  answers : r / 2 ≤ s.answers.length
  delays : (r + 1) / 2 ≤ s.delays

/-- The next operation of a supplied command is answered: one at an even index has a delay after it, so an
answer is left for it (40_engine.md R103). -/
theorem Supplied.exists_runMicroOp {i : Instr} {r : Nat} {s : State} (h : Supplied i r s) :
    ∃ m ran, (prog s.config i)[s.STEP]? = some m ∧ runMicroOp m s = some ran := by
  obtain ⟨-, -, hpending, hremaining, hanswers, hdelays⟩ := h
  have hm : (prog s.config i)[s.STEP]? = some ((prog s.config i)[s.STEP]'(by omega)) :=
    List.getElem?_eq_getElem _
  have hkind := prog_isDelay_iff_odd hm
  obtain ⟨hlength, -⟩ := prog_length s.config i
  have access (heven : false = decide (s.STEP % 2 = 1)) : s.answers ≠ [] := by
    have hnot : ¬ s.STEP % 2 = 1 := of_decide_eq_false heven.symm
    exact List.ne_nil_of_length_pos (by omega)
  have hanswered : answered ((prog s.config i)[s.STEP]'(by omega)) s := by
    generalize (prog s.config i)[s.STEP]'(by omega) = m at hkind
    cases m with
    | rd => exact access hkind
    | wr => exact access hkind
    | dly => exact Nat.ne_of_gt (by omega)
  obtain ⟨ran, hran⟩ :=
    Option.ne_none_iff_exists'.mp (mt (runMicroOp_eq_none_iff _ s).mp (not_not_intro hanswered))
  exact ⟨_, ran, hm, hran⟩

/-- A supplied command either completes in its next step or goes on, supplied still. -/
theorem Supplied.step {i : Instr} {r : Nat} {s : State} (h : Supplied i (r + 1) s) :
    ∃ t, Machine.step s = .next t ∧ t.words = s.words ∧
      (Supplied i r t ∨ t.Idle ∧ t.LASTOP = i.fields.op ∧ t.STEP = 0) := by
  obtain ⟨m, ran, hm, hran⟩ := h.exists_runMicroOp
  obtain ⟨hrun, hresets, -, hremaining, hanswers, hdelays⟩ := h
  obtain ⟨hu, -⟩ := runMicroOp_cases hran
  by_cases hc : completes (prog s.config i) m ran.advance = true
  · obtain ⟨-, -, hcur, -, -, -, -, -, -, hwords, -⟩ := commit_keeps i ran.advance
    refine ⟨_, CommandRun.step_of_completes hresets ⟨hrun, hm⟩ hran hc, hwords.trans hu.words, .inr ?_⟩
    exact ⟨statusBusy_writeBusy _ false, congrArg CmdFields.op (hcur.trans (hu.CUR.trans hrun.2)), rfl⟩
  · rw [Bool.not_eq_true] at hc
    refine ⟨_, CommandRun.step_of_goesOn hresets ⟨hrun, hm⟩ hran hc, hu.words, .inl ?_⟩
    obtain ⟨hanswersRan, hdelaysRan⟩ := environment_of_runMicroOp hran
    obtain ⟨hlength, -⟩ := prog_length s.config i
    have hmore : ¬ s.STEP + 1 = (prog s.config i).length := by
      simp only [completes, Bool.or_eq_false_iff, beq_eq_false_iff_ne, State.advance_STEP, hu.STEP] at hc
      exact hc.2
    rw [prog_isDelay_iff_odd hm] at hanswersRan hdelaysRan
    simp only [decide_eq_true_eq] at hanswersRan hdelaysRan
    exact {
      running := by simpa [State.Running, State.busy, hu.STATUS, hu.CUR] using hrun
      resets := hu.resets.trans hresets
      pending := by omega
      remaining := by
        simp only [State.advance_STEP, State.advance_config, hu.STEP, hu.config]
        omega
      answers := by
        simp only [State.advance_answers]
        split at hanswersRan <;> omega
      delays := by
        simp only [State.advance_delays]
        split at hdelaysRan <;> omega }

/-- A supplied command completes after at most as many steps as it has operations to come. -/
theorem Supplied.run {i : Instr} {r : Nat} {s : State} (h : Supplied i r s) :
    ∃ n t, n ≤ r ∧ Machine.run n s = .next t ∧ t.words = s.words ∧
      t.Idle ∧ t.LASTOP = i.fields.op ∧ t.STEP = 0 := by
  induction r generalizing s with
  | zero => exact absurd h.pending (Nat.lt_irrefl 0)
  | succ r ih =>
    obtain ⟨t, hstep, hwords, hsupplied | hdone⟩ := h.step
    · obtain ⟨n, u, hn, hrun, hwords', hdone⟩ := ih hsupplied
      exact ⟨n + 1, u, by omega, (run_succ n hstep).trans hrun, hwords'.trans hwords, hdone⟩
    · exact ⟨1, t, by omega, run_succ 0 hstep, hwords, hdone⟩

/-- Settles O22: five answers and five delays supply the longest micro-program, so the accepted command
completes within its length. -/
theorem everyCommandCompletes : Obligations.EveryCommandCompletes := by
  intro s i ws h hanswers hdelays
  obtain ⟨-, hpositive, hten⟩ := prog_length s.config i
  have supplied : Supplied i (prog s.config i).length
      (({ s with words := ws } : State).accept i.fields) :=
    { running := ⟨State.accept_busy _ _, rfl⟩
      resets := h.resets
      pending := hpositive
      remaining := Nat.zero_add _
      answers := le_trans (by omega) hanswers
      delays := le_trans (by omega) hdelays }
  obtain ⟨n, t, hn, hrun, hwords, hidle, hlastop, hstep⟩ := supplied.run
  exact ⟨n + 1, t, by omega, (run_succ n (CommandRun.step_of_issues h)).trans hrun, hidle, hwords, hlastop,
    hstep⟩

end Sys2Proof.Proofs.Engine
end

section
/-! The spacing of accesses on the bus (40_engine.md R103, R107): a trace and one more event, the event of a
micro-operation, and the steps that keep the spacing. -/

namespace Sys2Proof.Proofs.Spacing
open Sys2Proof Sys2Proof.Machine

/-- A trace with one more event is spaced exactly when the trace is and its last event allows the new one. -/
theorem spaced_concat_iff (gap : Nat) (trace : List BusEvent) (x : BusEvent) :
    spaced gap (trace ++ [x]) = true ↔
      spaced gap trace = true ∧ ∀ e, trace.getLast? = some e → mayFollow gap e (some x) = true := by
  have alone (e : BusEvent) : mayFollow gap e none = true := by cases e <;> rfl
  induction trace with
  | nil => simp [spaced, alone]
  | cons e rest ih =>
    cases rest with
    | nil => simp [spaced, alone]
    | cons f rest =>
      have unfold_cons (l : List BusEvent) : spaced gap (e :: f :: l) = true ↔
          mayFollow gap e (some f) = true ∧ spaced gap (f :: l) = true := Bool.and_eq_true_iff
      rw [List.getLast?_cons_cons, List.cons_append, List.cons_append, unfold_cons, unfold_cons, and_assoc]
      exact and_congr_right fun _ => ih

/-- A trace ends in an access exactly when its newest event is one. -/
@[simp] theorem endsInAccess_concat (trace : List BusEvent) (x : BusEvent) :
    endsInAccess (trace ++ [x]) = x.isAccess := by
  simp [endsInAccess]

/-- A delay of at least the gap may follow any spaced trace (40_engine.md R107). -/
theorem spaced_concat_delay {gap us : Nat} {trace : List BusEvent} (h : spaced gap trace = true)
    (hgap : gap ≤ us) : spaced gap (trace ++ [.delay us]) = true := by
  refine (spaced_concat_iff ..).mpr ⟨h, fun e _ => ?_⟩
  cases e with
  | exchange => exact decide_eq_true hgap
  | delay => rfl

/-- Anything may follow a spaced trace that does not end in an access. -/
theorem spaced_concat_of_not_endsInAccess {gap : Nat} {trace : List BusEvent} (x : BusEvent)
    (h : spaced gap trace = true) (hend : endsInAccess trace = false) :
    spaced gap (trace ++ [x]) = true := by
  refine (spaced_concat_iff ..).mpr ⟨h, fun e he => ?_⟩
  cases e with
  | exchange => simp [endsInAccess, he, BusEvent.isAccess] at hend
  | delay => rfl

/-- The one event of an answered micro-operation: an exchange for an access, the delay itself for a delay
(20_memory.md R64, R66). -/
theorem runMicroOp_trace {m : MicroOp} {s ran : State} (h : runMicroOp m s = some ran) :
    ∃ e, ran.trace = s.trace ++ [e] ∧ e.isAccess = !m.isDelay ∧ ∀ us, m = .dly us → e = .delay us := by
  obtain ⟨-, ⟨k, a, l, ans, rest, rfl, -, rfl⟩ | ⟨k, a, w, ans, rest, rfl, -, rfl⟩ |
    ⟨us, n, rfl, -, rfl⟩⟩ := runMicroOp_cases h
  · exact ⟨readEvent s.config a ans, by simp, rfl, nofun⟩
  · exact ⟨writeEvent s.config a (w.eval s) ans, by simp, rfl, nofun⟩
  · exact ⟨.delay us, rfl, rfl, fun _ h => congrArg BusEvent.delay (MicroOp.dly.inj h)⟩

/-- No delay of a micro-program is shorter than the gap (42_device_control.md R135). -/
theorem gapUs_le_of_delay {c : Config} {i : Instr} {us : Nat} (hwf : c.wf = true)
    (h : .dly us ∈ prog c i) : c.gapUs ≤ us := by
  obtain ⟨hinit, -⟩ := (Scope.config_wf_iff c).mp hwf
  obtain rfl | rfl := Memory.prog_delay_duration h
  · exact le_rfl
  · exact hinit

/-- A micro-operation of a running command keeps the trace spaced: an access stands at an even `STEP`, where
no access is pending, and a delay is never too short (40_engine.md R103, R107). -/
theorem spaced_runMicroOp {i : Instr} {m : MicroOp} {s ran : State} (hwf : s.config.wf = true)
    (h : s.SpacedInv) (hm : (prog s.config i)[s.STEP]? = some m) (hran : runMicroOp m s = some ran) :
    spaced s.config.gapUs ran.trace = true ∧ endsInAccess ran.trace = !m.isDelay := by
  obtain ⟨e, htrace, haccess, hdelay⟩ := runMicroOp_trace hran
  refine ⟨?_, by rw [htrace, endsInAccess_concat, haccess]⟩
  rw [htrace]
  by_cases hodd : m.isDelay = true
  · obtain ⟨us, rfl⟩ := Engine.exists_eq_dly hodd
    rw [hdelay us rfl]
    exact spaced_concat_delay h.spaced (gapUs_le_of_delay hwf (List.mem_of_getElem? hm))
  · refine spaced_concat_of_not_endsInAccess e h.spaced (Bool.eq_false_of_not_eq_true fun hpending => hodd ?_)
    rw [prog_isDelay_iff_odd hm, decide_eq_true_eq]
    exact (h.pending hpending).2

/-- An engine step keeps the spacing: an access leaves the block busy at an odd `STEP`, and a command ends
with a delay (40_engine.md R103, R112). -/
theorem spacedInv_engineStep {i : Instr} {s t : State} (hwf : s.config.wf = true) (h : s.SpacedInv)
    (hbusy : s.busy = true) (hstep : engineStep (prog s.config i) (commit i) s = .next t) :
    t.SpacedInv := by
  obtain ⟨m, hm, ⟨-, rfl⟩ | ⟨ran, hran, ⟨-, rfl⟩ | ⟨hc, rfl⟩⟩⟩ := engineStep_cases hstep
  · exact h
  · obtain ⟨hu, -⟩ := runMicroOp_cases hran
    obtain ⟨hspaced, hends⟩ := spaced_runMicroOp hwf h hm hran
    refine ⟨by simpa [hu.config] using hspaced, fun hpending => ⟨?_, ?_⟩⟩
    · simpa [State.busy, hu.STATUS] using hbusy
    · have heven : ¬ s.STEP % 2 = 1 := by
        simpa [hends, prog_isDelay_iff_odd hm] using hpending
      simp only [State.advance_STEP, hu.STEP]
      omega
  · obtain ⟨hu, -⟩ := runMicroOp_cases hran
    obtain ⟨hspaced, hends⟩ := spaced_runMicroOp hwf h hm hran
    rw [BlockState.isDelay_of_completes hm hran hc] at hends
    obtain ⟨-, -, -, -, -, -, -, -, hconfig, -, -, -, -, htrace⟩ := commit_keeps i ran.advance
    exact ⟨by simpa [hconfig, htrace, hu.config] using hspaced, fun hpending => by simp_all⟩

/-- An idle block owes no delay (40_engine.md R107). -/
theorem not_endsInAccess_of_idle {s : State} (h : s.SpacedInv) (hidle : s.Idle) :
    endsInAccess s.trace = false := by
  refine Bool.eq_false_of_not_eq_true fun hpending => ?_
  obtain ⟨hbusy, -⟩ := h.pending hpending
  exact Bool.false_ne_true (hidle.symm.trans hbusy)

/-- A block's step keeps the spacing; between commands no access is pending. -/
theorem spacedInv_stepBlock {s t : State} (hwf : s.config.wf = true) (h : s.SpacedInv)
    (hstep : stepBlock s = .next t) : t.SpacedInv := by
  obtain ⟨-, -, rfl⟩ | ⟨-, ws, i, hidle, -, -, rfl⟩ | ⟨-, ws, op, hidle, -, -, rfl⟩ |
    ⟨i, hbusy, -, hexec⟩ := stepBlock_cases hstep
  · exact h
  · exact ⟨h.spaced, fun hpending => by simp [not_endsInAccess_of_idle h hidle] at hpending⟩
  · exact ⟨h.spaced, fun hpending => by simp [not_endsInAccess_of_idle h hidle] at hpending⟩
  · obtain ⟨hidle, -⟩ | ⟨-, -, rfl⟩ | ⟨-, hengine⟩ := exec_cases hexec
    · exact absurd (hidle.symm.trans hbusy) Bool.false_ne_true
    · exact h
    · exact spacedInv_engineStep hwf h hbusy hengine

/-- Settles O47: a step that is not a reset is the block's own, and each thing the block can do keeps the
spacing. -/
theorem accessesAreSpaced : Obligations.AccessesAreSpaced := by
  intro s t hwf hdue h hstep
  obtain ⟨rest, hr, -⟩ | ⟨rs, -, hblock⟩ := step_cases hstep
  · simp [hr] at hdue
  · exact spacedInv_stepBlock (s := { s with resets := rs }) hwf ⟨h.spaced, h.pending⟩ hblock

/-- Settles O48: the trace at reset is empty. -/
theorem spacingHoldsAtReset : Obligations.SpacingHoldsAtReset :=
  ⟨rfl, fun hpending => nomatch hpending⟩

end Sys2Proof.Proofs.Spacing
end

section
/-! The completion of single commands (40_engine.md R108, R109) and two commands of one access from their word
to their result: READID and INIT (42_device_control.md R130 to R134). -/

namespace Sys2Proof.Proofs.Completions
open Sys2Proof Sys2Proof.Machine Sys2Proof.Proofs.Engine

/-! ## One rule for every completion -/

/-- A delay that ends or aborts the command commits its results (40_engine.md R108, R109). -/
theorem exec_of_completingDelay {i : Instr} {s : State} {us n : Nat} (h : s.AtOp i (.dly us))
    (hdelays : s.delays = n + 1) (hend : s.STEP + 1 = (prog s.config i).length ∨ s.aborting = true) :
    exec i s = .next (commit i
      { s with STEP := s.STEP + 1, delays := n, trace := s.trace ++ [.delay us] }).finish := by
  obtain ⟨hrun, hm⟩ := h
  rw [exec_of_running hrun, engineStep_of_answered hm (runMicroOp_dly us hdelays)]
  refine if_pos (Bool.or_eq_true_iff.mpr (hend.symm.imp ?_ ?_))
  · exact fun haborting => haborting
  · exact fun hlast => beq_iff_eq.mpr hlast

/-- The delay of a command of one access commits its results. -/
theorem exec_of_onlyDelay {i : Instr} {s : State} {m : MicroOp} {us n : Nat} (hrun : s.Running i)
    (hprog : prog s.config i = [m, .dly us]) (hstep : s.STEP = 1) (hdelays : s.delays = n + 1) :
    exec i s = .next (commit i
      { s with STEP := 2, delays := n, trace := s.trace ++ [.delay us] }).finish := by
  rw [exec_of_completingDelay ⟨hrun, by rw [hprog, hstep]; rfl⟩ hdelays (.inl (by rw [hprog, hstep]; rfl)),
    hstep]

/-- The report of INIT and RSTQ as one write of `STATUS`, under either policy (42_device_control.md R134, R137,
R138). -/
theorem reportByPolicy_eq (s : State) : s.reportByPolicy =
    { s with
      STATUS := writeReport s.STATUS (s.config.seqPolicy == .fireAndForget || s.OKACC) false false
        (if s.config.seqPolicy = .fireAndForget then 0 else s.FAIL) } := by
  unfold State.reportByPolicy
  cases s.config.seqPolicy <;> rfl

/-- The status that the policy's report and a completion leave: success under FIRE_AND_FORGET, the outcome
latches under ABORT_AND_REPORT. -/
theorem statusIs_policyReport (p : SeqPolicy) (v : Byte) (ok : Bool) (fail : BitVec 3) :
    let st := writeBusy (writeReport v (p == .fireAndForget || ok) false false
      (if p = .fireAndForget then 0 else fail)) false
    (p = .fireAndForget → StatusIs st v true false false 0 false) ∧
      (p = .abortAndReport → StatusIs st v ok false false fail false) := by
  constructor
  · rintro rfl
    exact statusIs_writeReport_writeBusy v true false false 0
  · rintro rfl
    exact statusIs_writeReport_writeBusy v ok false false fail

/-- A status byte keeps the reserved bit from before acceptance, which writes `BUSY` only. -/
theorem statusIs_of_writeBusy {st v : Byte} {ok present illegal b busy : Bool} {err : BitVec 3}
    (h : StatusIs st (writeBusy v b) ok present illegal err busy) :
    StatusIs st v ok present illegal err busy :=
  { h with reserved := h.reserved.trans (statusReserved_writeBusy v b) }

/-- R131's test is the range 0x00..0x3F: the top two bits are 0. -/
theorem idMatch_eq_decide : ∀ b : Byte, idMatch b = decide (b.toNat ≤ 0x3F) := by decide

/-- The gap at each odd index of RSTQ's micro-program (42_device_control.md R136). -/
theorem prog_rstq_odd (c : Config) {n : Nat} (hodd : n % 2 = 1) (hlt : n < 10) :
    (prog c .rstq)[n]? = some (.dly c.gapUs) := by
  have hm : (prog c .rstq)[n]? = some ((prog c .rstq)[n]'hlt) := List.getElem?_eq_getElem hlt
  exact hm.trans (congrArg some (prog_odd hm hodd))

/-! ## The commits -/

/-- Settles O23: the delay is RDREG's last, and its commit copies `B8` to `OUT` and `RAW`. -/
theorem rdregCommits : Obligations.RdregCommits := by
  intro a s n hrun hstep hdelays
  refine ⟨_, ?_, statusIs_writeReport_writeBusy s.STATUS s.OKACC false false s.FAIL⟩
  rw [exec_of_onlyDelay hrun rfl hstep hdelays]
  simp [commit, commitRdreg, State.putByte, State.reportAccesses, State.finish, zext16, hrun.2, Instr.fields]

/-- Settles O24: the delay is WRREG's last, and its commit writes the report only. -/
theorem wrregCommits : Obligations.WrregCommits := by
  intro a d s n hrun hstep hdelays
  refine ⟨_, ?_, statusIs_writeReport_writeBusy s.STATUS s.OKACC false false s.FAIL⟩
  rw [exec_of_onlyDelay hrun rfl hstep hdelays]
  simp [commit, commitWrreg, State.reportAccesses, State.finish, hrun.2, Instr.fields]

/-- Settles O25: the delay is READID's last, and its commit copies `B8` and tests its top two bits. -/
theorem readidCommits : Obligations.ReadidCommits := by
  intro s n hrun hstep hdelays
  refine ⟨_, ?_, statusIs_writeReport_writeBusy s.STATUS s.OKACC _ false s.FAIL⟩
  rw [exec_of_onlyDelay hrun rfl hstep hdelays]
  simp [commit, commitReadid, State.putByte, State.reportAccesses, State.finish, zext16, hrun.2, Instr.fields,
    idMatch_eq_decide]

/-- Settles O27: the delay is RSTQ's last or RSTQ is aborting, and its commit saves `S8` and reports by
policy. -/
theorem rstqCommits : Obligations.RstqCommits := by
  intro s n hrun hdelays hend
  have hdelay := prog_rstq_odd s.config (n := s.STEP) (by omega) (by omega)
  refine ⟨_, ?_, statusIs_policyReport s.config.seqPolicy s.STATUS s.OKACC s.FAIL⟩
  rw [exec_of_completingDelay ⟨hrun, hdelay⟩ hdelays ?ends]
  case ends =>
    refine hend.imp (congrArg (fun step => step + 1)) fun ⟨habort, hfailed, _⟩ => ?_
    exact (Memory.aborting_iff hrun.2).mpr ⟨habort, .inr rfl, hfailed⟩
  simp [commit, commitRstq, reportByPolicy_eq, State.finish, hrun.2, Instr.fields]

/-! ## READID and INIT from their word to their result -/

/-- Settles O33: READID's one read fills `B8`, and a byte is tested only if the read succeeded. -/
theorem readidFromIssueToResult : Obligations.ReadidFromIssueToResult := by
  intro s ws ans rest n h hanswers hdelays
  refine ⟨_, ?_, statusIs_writeReport_writeBusy s.STATUS ans.ok _ false (if ans.ok then 0 else 1)⟩
  have hpresent : (ans.ok && idMatch ans.byte) = (ans.ok && decide (ans.rx.toNat ≤ 0x3F)) := by
    rw [idMatch_eq_decide, Answer.byte]
    cases ans.ok <;> rfl
  rw [Memory.run_of_oneRead h rfl hanswers hdelays]
  simp [commit, commitReadid, State.putByte, State.reportAccesses, State.finish, Instr.fields, zext16,
    hpresent, aStatus]

/-- Settles O34: INIT's one write sends `P_INIT_CTRL`, its one delay is the settle delay, and its commit
reports by policy. -/
theorem initFromIssueToResult : Obligations.InitFromIssueToResult := by
  intro s ws ans rest n h hanswers hdelays
  refine ⟨_, ?_, statusIs_policyReport s.config.seqPolicy s.STATUS ans.ok (if ans.ok then 0 else 1)⟩
  rw [Memory.run_of_oneWrite h rfl hanswers hdelays]
  simp [commit, commitInit, reportByPolicy_eq, State.finish, Instr.fields, WriteExpr.eval, aCtrl]

end Sys2Proof.Proofs.Completions
end

section
/-! RSTQ under ABORT_AND_REPORT up to its first failed access (40_engine.md R108, 42_device_control.md R136,
R138). -/

namespace Sys2Proof.Proofs.RstqAbort
open Sys2Proof Sys2Proof.Machine Sys2Proof.Proofs.Engine Sys2Proof.Proofs.Completions

/-- The event of one access of RSTQ, from the bytes it sends and the number it reads back. -/
def accessEvent (c : Config) (access : List Byte × Nat) (ans : Answer) : BusEvent :=
  .exchange c.devAddr access.1 access.2 ans.ok (if access.2 = 1 then some ans.rx else none)

/-- Zipping with one more element adds one pair, while the other list has one to offer. -/
theorem zip_concat {α β : Type} {xs : List α} {ys : List β} {x : α} (y : β)
    (h : xs[ys.length]? = some x) : xs.zip (ys ++ [y]) = xs.zip ys ++ [(x, y)] := by
  induction ys generalizing xs with
  | nil =>
    cases xs with
    | nil => cases h
    | cons x' xs => simp_all
  | cons y' ys ih =>
    cases xs with
    | nil => cases h
    | cons x' xs => exact congrArg ((x', y') :: ·) (ih h)

/-- One more access adds its event and the gap to RSTQ's events. -/
theorem rstqEvents_concat (c : Config) {v : Byte} {done : List Answer} {access : List Byte × Nat}
    (ans : Answer) (h : (rstqAccesses v)[done.length]? = some access) :
    rstqEvents c v (done ++ [ans]) =
      rstqEvents c v done ++ [accessEvent c access ans, .delay c.gapUs] := by
  rw [rstqEvents, zip_concat ans h, List.flatMap_append]
  rfl

/-- The four writes of RSTQ: what each sends while `S8` holds the control value (42_device_control.md R136,
R141). -/
theorem rstq_writes (c : Config) : ∀ k < 4, ∃ a e,
    (prog c .rstq)[2 * (k + 1)]? = some (.wr (BitVec.ofNat 3 (k + 2)) a e) ∧
    ∀ s : State, (rstqAccesses s.S8)[k + 1]? = some ([a, e.eval s], 0)
  | 0, _ => ⟨aCtrl, .s8Shutdown, rfl, fun _ => rfl⟩
  | 1, _ => ⟨aQmsb, .zero, rfl, fun _ => rfl⟩
  | 2, _ => ⟨aQlsb, .zero, rfl, fun _ => rfl⟩
  | 3, _ => ⟨aCtrl, .s8, rfl, fun _ => rfl⟩

/-- RSTQ has five accesses. -/
theorem exists_rstqAccess (v : Byte) {k : Nat} (hk : k < 5) :
    ∃ access, (rstqAccesses v)[k]? = some access :=
  ⟨_, List.getElem?_eq_getElem (l := rstqAccesses v) hk⟩

/-- Access `k + 1` of RSTQ, under either policy: the first fills `S8` with the control value, the others send
what `S8` makes of it (42_device_control.md R136, R141). -/
theorem step_of_rstqAccess {s : State} {k : Nat} {v : Byte} {access : List Byte × Nat} {ans : Answer}
    {rest : List Answer} (hresets : s.resets = []) (hrun : s.Running .rstq) (hstep : s.STEP = 2 * k)
    (haccess : (rstqAccesses v)[k]? = some access) (hanswers : s.answers = ans :: rest)
    (hv : v = if k = 0 then ans.byte else s.S8) :
    ∃ b, step s = .next
      { s with
        answers := rest, trace := s.trace ++ [accessEvent s.config access ans], B8 := b, S8 := v
        OKACC := s.OKACC && ans.ok
        FAIL := if ans.ok = false ∧ s.FAIL = 0 then BitVec.ofNat 3 (k + 1) else s.FAIL
        STEP := s.STEP + 1 } := by
  subst hv
  cases k with
  | zero =>
    obtain rfl := Option.some.inj haccess
    have hm : (prog s.config .rstq)[s.STEP]? = some (.rd 1 aCtrl .s8) := by rw [hstep]; rfl
    refine ⟨ans.byte, (step_eq_exec_of_running hresets hrun).trans ?_⟩
    exact readMicroOperation .rstq s 1 aCtrl .s8 ans rest ⟨hrun, hm⟩ hanswers
  | succ k =>
    have hk : k < 4 := Nat.lt_of_succ_lt_succ (List.getElem?_eq_some_iff.mp haccess).1
    obtain ⟨a, e, hm, hsends⟩ := rstq_writes s.config k hk
    obtain rfl := Option.some.inj ((hsends s).symm.trans haccess)
    exact ⟨s.B8, (step_eq_exec_of_running hresets hrun).trans (exec_of_write ⟨hrun, hstep ▸ hm⟩ hanswers)⟩

/-- RSTQ accepted in `s`, after the successful accesses `done` of the control value `v`, with the answers
`rest` and `n` delays to come; `b` and `w` are the values of `B8` and `S8`. -/
def rstqState (s : State) (v b w : Byte) (done rest : List Answer) (n : Nat) : State :=
  { s.accept Instr.rstq.fields with
    STEP := 2 * done.length, answers := rest, delays := n
    trace := s.trace ++ rstqEvents s.config v done, B8 := b, S8 := w }

/-- The state of `rstqState` after the next access, with its delay to come. -/
def rstqPending (s : State) (v b : Byte) (done rest : List Answer) (n : Nat)
    (access : List Byte × Nat) (ans : Answer) : State :=
  { rstqState s v b v done rest n with
    STEP := 2 * done.length + 1
    trace := s.trace ++ rstqEvents s.config v done ++ [accessEvent s.config access ans]
    OKACC := ans.ok, FAIL := if ans.ok then 0 else BitVec.ofNat 3 (done.length + 1) }

/-- RSTQ aborted after the accesses `done`, the last of which failed; `st` is the status it leaves
(42_device_control.md R138). -/
def rstqAborted (s : State) (v b : Byte) (done rest : List Answer) (n : Nat) (st : Byte) : State :=
  { rstqState s v b v done rest n with
    STEP := 0, OKACC := false, FAIL := BitVec.ofNat 3 done.length, SAVED := v, LASTOP := 0x5, STATUS := st }

section
variable {s : State} {v b w : Byte} {done rest : List Answer} {n : Nat} {ans : Answer}

/-- The next access of RSTQ, while all before it succeeded. -/
theorem step_rstqState {access : List Byte × Nat} (hresets : s.resets = [])
    (haccess : (rstqAccesses v)[done.length]? = some access)
    (hv : v = if done.length = 0 then ans.byte else w) :
    ∃ b', step (rstqState s v b w done (ans :: rest) n) =
      .next (rstqPending s v b' done rest n access ans) := by
  obtain ⟨b', h⟩ := step_of_rstqAccess (s := rstqState s v b w done (ans :: rest) n) hresets
    ⟨State.accept_busy s Instr.rstq.fields, rfl⟩ rfl haccess rfl hv
  refine ⟨b', h.trans ?_⟩
  cases hok : ans.ok <;> simp [rstqPending, rstqState, hok]

/-- After each of its accesses RSTQ is at the gap (42_device_control.md R136). -/
theorem rstqPending_atGap (access : List Byte × Nat) (hlength : done.length < 5) :
    (rstqPending s v b done rest n access ans).AtOp .rstq (.dly s.config.gapUs) := by
  have hodd : (2 * done.length + 1) % 2 = 1 := by omega
  have hlt : 2 * done.length + 1 < 10 := by omega
  exact ⟨⟨State.accept_busy s Instr.rstq.fields, rfl⟩, prog_rstq_odd s.config hodd hlt⟩

/-- After an access that succeeded RSTQ goes on to the next, under either policy. -/
theorem run_of_rstqGoesOn (m : Nat) (hresets : s.resets = []) (hlength : done.length < 4)
    (hok : ans.ok = true) (hv : v = if done.length = 0 then ans.byte else w) :
    ∃ b', run (m + 2) (rstqState s v b w done (ans :: rest) (n + 1)) =
      run m (rstqState s v b' v (done ++ [ans]) rest n) := by
  obtain ⟨access, haccess⟩ := exists_rstqAccess v (Nat.lt_succ_of_lt hlength)
  obtain ⟨b', hstep⟩ := step_rstqState (b := b) (rest := rest) (n := n + 1) hresets haccess hv
  have atGap := rstqPending_atGap (s := s) (v := v) (b := b') (rest := rest) (n := n + 1) (ans := ans) access
    (Nat.lt_succ_of_lt hlength)
  have hnone : (rstqPending s v b' done rest (n + 1) access ans).resets = [] := hresets
  have hmore : 2 * done.length + 1 + 1 < 10 := by omega
  have hgap := Memory.delayMicroOperation .rstq _ s.config.gapUs n atGap rfl hmore fun _ _ => hok
  refine ⟨b', ?_⟩
  rw [run_succ _ hstep, run_succ _ ((step_eq_exec_of_running hnone atGap.1).trans hgap)]
  simp [rstqState, rstqPending, State.accept, hok, rstqEvents_concat _ ans haccess, Nat.mul_add]

/-- After an access that failed RSTQ aborts at the end of the gap, under ABORT_AND_REPORT
(42_device_control.md R138). -/
theorem run_of_rstqFailure (hresets : s.resets = []) (hpolicy : s.config.seqPolicy = .abortAndReport)
    (hlength : done.length < 5) (hfailed : ans.ok = false)
    (hv : v = if done.length = 0 then ans.byte else w) :
    ∃ b' st, run 2 (rstqState s v b w done (ans :: rest) (n + 1)) =
        .next (rstqAborted s v b' (done ++ [ans]) rest n st) ∧
      StatusIs st s.STATUS false false false (BitVec.ofNat 3 (done.length + 1)) false := by
  obtain ⟨access, haccess⟩ := exists_rstqAccess v hlength
  obtain ⟨b', hstep⟩ := step_rstqState (b := b) (rest := rest) (n := n + 1) hresets haccess hv
  have atGap := rstqPending_atGap (s := s) (v := v) (b := b') (rest := rest) (n := n + 1) (ans := ans) access
    hlength
  have hnone : (rstqPending s v b' done rest (n + 1) access ans).resets = [] := hresets
  have hodd : (2 * done.length + 1) % 2 = 1 := by omega
  have hlt : 2 * done.length + 1 < 10 := by omega
  obtain ⟨st, hcommit, -, hstatus⟩ :=
    rstqCommits _ n atGap.1 rfl (.inr ⟨hpolicy, hfailed, hodd, hlt⟩)
  refine ⟨b', st, ?_, ?_⟩
  · rw [run_succ _ hstep, run_succ _ ((step_eq_exec_of_running hnone atGap.1).trans hcommit), run_zero]
    simp [rstqState, rstqPending, rstqAborted, State.accept, hfailed, rstqEvents_concat _ ans haccess]
  · have h := statusIs_of_writeBusy (v := s.STATUS) (b := true) (hstatus hpolicy)
    simpa [rstqPending, hfailed] using h

/-- RSTQ under ABORT_AND_REPORT with the successful accesses `done` behind it, `oks` to come and then a
failed one. -/
theorem run_of_rstqAbort {bad : Answer} {oks : List Answer} (hresets : s.resets = [])
    (hpolicy : s.config.seqPolicy = .abortAndReport) (hlength : done.length + oks.length < 5)
    (hoks : ∀ a ∈ oks, a.ok = true) (hfailed : bad.ok = false)
    (hv : v = if done.length = 0 then ((oks ++ [bad]).headD bad).byte else w) :
    ∃ b' st, run (2 * oks.length + 2)
          (rstqState s v b w done (oks ++ bad :: rest) (n + (oks.length + 1))) =
        .next (rstqAborted s v b' (done ++ oks ++ [bad]) rest n st) ∧
      StatusIs st s.STATUS false false false (BitVec.ofNat 3 (done.length + oks.length + 1)) false := by
  induction oks generalizing done b w with
  | nil => simpa using run_of_rstqFailure hresets hpolicy hlength hfailed hv
  | cons a oks ih =>
    simp only [List.length_cons] at hlength
    obtain ⟨b', hgoesOn⟩ := run_of_rstqGoesOn (b := b) (rest := oks ++ bad :: rest)
      (n := n + (oks.length + 1)) (2 * oks.length + 2) hresets (by omega) (hoks a List.mem_cons_self) hv
    obtain ⟨b'', st, hrun, hstatus⟩ := ih (done := done ++ [a]) (b := b') (w := v)
      (by simp; omega) (fun x hx => hoks x (List.mem_cons_of_mem a hx)) (by simp)
    refine ⟨b'', st, hgoesOn.trans (hrun.trans ?_), ?_⟩
    · simp
    · simpa [Nat.add_assoc, Nat.add_comm 1] using hstatus

end

/-- Settles O39: the accepted RSTQ has made no access, and goes on after each that succeeds until one fails. -/
theorem rstqAbortsAtFirstFailure : Obligations.RstqAbortsAtFirstFailure := by
  intro s ws oks bad rest n v h hpolicy hlength hoks hfailed hanswers hdelays hv
  have accepted : ({ s with words := ws } : State).accept Instr.rstq.fields =
      rstqState { s with words := ws } v s.B8 s.S8 [] (oks ++ bad :: rest) (n + (oks.length + 1)) := by
    simp [rstqState, State.accept, rstqEvents, hanswers, hdelays]
  obtain ⟨b, st, hrun, hstatus⟩ := run_of_rstqAbort (s := { s with words := ws }) (done := []) (b := s.B8)
    (w := s.S8) (rest := rest) (n := n) h.resets hpolicy (by simp; omega) hoks hfailed hv
  rw [List.length_nil, Nat.zero_add] at hstatus
  exact ⟨_, (run_succ _ ((CommandRun.step_of_issues h).trans (congrArg _ accepted))).trans hrun,
    rfl, rfl, rfl, rfl, rfl, rfl, rfl, rfl, rfl, hstatus⟩

end Sys2Proof.Proofs.RstqAbort
end

section
/-! INIT's completion and the reset sequencer RSTQ: its whole run when it does not abort, its state table, and
what it does to a chip on which its writes land (42_device_control.md R132 to R142). -/

namespace Sys2Proof.Proofs.DeviceControl
open Sys2Proof Sys2Proof.Machine Sys2Proof.Proofs.Engine Sys2Proof.Proofs.Completions
open Sys2Proof.Proofs.RstqAbort

/-- Settles O26: the delay is INIT's last, and its commit reports by policy. -/
theorem initCommits : Obligations.InitCommits := by
  intro s n hrun hstep hdelays
  refine ⟨_, ?_, statusIs_policyReport s.config.seqPolicy s.STATUS s.OKACC s.FAIL⟩
  rw [exec_of_onlyDelay hrun rfl hstep hdelays]
  simp [commit, commitInit, reportByPolicy_eq, State.finish, hrun.2, Instr.fields]

/-! ## The state table -/

/-- The value of `STEP` in each phase (42_device_control.md R139). -/
def phaseStep : RstqPhase → Nat
  | .readCtrl => 0
  | .gap1 => 1
  | .shutdown => 2
  | .gap2 => 3
  | .zeroMsb => 4
  | .gap3 => 5
  | .zeroLsb => 6
  | .gap4 => 7
  | .restore => 8
  | .gap5 => 9

/-- Each phase is at one of RSTQ's ten micro-operations. -/
theorem phaseStep_lt (p : RstqPhase) : phaseStep p < 10 := by
  cases p <;> decide

/-- A running RSTQ is in the phase that its `STEP` names. -/
theorem rstqPhase_eq_some_iff {s : State} (hrun : s.Running .rstq) (p : RstqPhase) :
    s.rstqPhase = some p ↔ s.STEP = phaseStep p := by
  obtain ⟨hbusy, hcur⟩ := hrun
  have hphase : (s.busy && s.CUR.op == 0x5) = true := by rw [hbusy, hcur]; rfl
  unfold State.rstqPhase
  rw [if_pos hphase]
  constructor
  · intro h
    split at h <;> cases h <;> assumption
  · intro h
    rw [h]
    cases p <;> rfl

/-- The gaps are the phases at an odd `STEP`, where RSTQ's micro-program has its delays. -/
theorem isGap_eq_odd (p : RstqPhase) : p.isGap = decide (phaseStep p % 2 = 1) := by
  cases p <;> rfl

/-- Every phase but the last is followed by the one at the next `STEP`. -/
theorem phaseStep_next {p q : RstqPhase} (h : p.next = some q) : phaseStep q = phaseStep p + 1 := by
  cases p <;> cases h <;> rfl

/-- The last phase is the one at RSTQ's last micro-operation. -/
theorem next_eq_none_iff (p : RstqPhase) : p.next = none ↔ phaseStep p + 1 = 10 := by
  cases p <;> decide

/-- With an answer and a delay to come, the micro-operation at hand is answered. -/
theorem exists_runMicroOp_eq (m : MicroOp) {s : State} (hanswers : s.answers ≠ []) (hdelays : s.delays ≠ 0) :
    ∃ ran, runMicroOp m s = some ran := by
  refine Option.ne_none_iff_exists'.mp fun h => (runMicroOp_eq_none_iff m s).mp h ?_
  cases m with
  | rd => exact hanswers
  | wr => exact hanswers
  | dly => exact hdelays

/-- After a delay the block is aborting exactly if it was before (40_engine.md R108). -/
theorem aborting_of_delay {m : MicroOp} {s ran : State} (hran : runMicroOp m s = some ran)
    (hdelay : m.isDelay = true) : ran.advance.aborting = s.aborting := by
  obtain ⟨hok, -, -⟩ := BlockState.latches_of_delay hran hdelay
  obtain ⟨hu, -⟩ := runMicroOp_cases hran
  simp [State.aborting, hok, hu.config, hu.CUR]

/-- RSTQ completes exactly from a gap when aborting and from the last gap (42_device_control.md R139). -/
theorem rstq_completes_iff {s ran : State} {p : RstqPhase} {m : MicroOp} (hstep : s.STEP = phaseStep p)
    (hm : (prog s.config .rstq)[s.STEP]? = some m) (hran : runMicroOp m s = some ran) :
    completes (prog s.config .rstq) m ran.advance = true ↔
      p.isGap = true ∧ s.aborting = true ∨ p.next = none := by
  have hgap : m.isDelay = p.isGap := by rw [prog_isDelay_iff_odd hm, hstep, isGap_eq_odd]
  obtain ⟨hu, -⟩ := runMicroOp_cases hran
  have hlast : (ran.advance.STEP == (prog s.config .rstq).length) = true ↔ p.next = none := by
    rw [next_eq_none_iff, ← hstep, ← hu.STEP]
    exact beq_iff_eq
  have habort (hdelay : m.isDelay = true) : ran.advance.aborting = true ↔ s.aborting = true := by
    rw [aborting_of_delay hran hdelay]
  rw [completes, Bool.or_eq_true, Bool.and_eq_true, hlast, and_congr_right habort, hgap]

/-- Settles O41: the answered micro-operation completes RSTQ exactly where the table says DONE, and goes on to
the next `STEP` otherwise. -/
theorem rstqPhaseTable : Obligations.RstqPhaseTable := by
  intro s p hrun hphase hresets hanswers hdelays
  have hstep := (rstqPhase_eq_some_iff hrun p).mp hphase
  have hlt : s.STEP < (prog s.config .rstq).length := hstep ▸ phaseStep_lt p
  have hm : (prog s.config .rstq)[s.STEP]? = some _ := List.getElem?_eq_getElem hlt
  obtain ⟨ran, hran⟩ := exists_runMicroOp_eq ((prog s.config .rstq)[s.STEP]) hanswers hdelays
  have hdone := rstq_completes_iff hstep hm hran
  split_ifs with hend
  · refine ⟨_, CommandRun.step_of_completes hresets ⟨hrun, hm⟩ hran (hdone.mpr hend), ?_, rfl⟩
    exact statusBusy_writeBusy _ false
  · refine ⟨_, CommandRun.step_of_goesOn hresets ⟨hrun, hm⟩ hran
      (Bool.eq_false_of_not_eq_true fun hc => hend (hdone.mp hc)), ?_⟩
    obtain ⟨hu, -⟩ := runMicroOp_cases hran
    have hrun' : ran.advance.Running .rstq :=
      ⟨(congrArg statusBusy hu.STATUS).trans hrun.1, hu.CUR.trans hrun.2⟩
    obtain ⟨q, hq⟩ := Option.ne_none_iff_exists'.mp fun hnone => hend (.inr hnone)
    rw [hq, rstqPhase_eq_some_iff hrun', phaseStep_next hq, ← hstep, ← hu.STEP]
    rfl

/-! ## The outcome latches -/

/-- A success in front moves the first failure back by one. -/
theorem firstFailure_cons_true (oks : List Bool) :
    firstFailure (true :: oks) = if firstFailure oks = 0 then 0 else firstFailure oks + 1 := by
  rw [firstFailure]
  cases firstFailure oks <;> rfl

/-- The first failure, with one more access. -/
theorem firstFailure_concat (oks : List Bool) (ok : Bool) : firstFailure (oks ++ [ok]) =
    if ok = false ∧ firstFailure oks = 0 then oks.length + 1 else firstFailure oks := by
  induction oks with
  | nil => cases ok <;> rfl
  | cons first oks ih =>
    cases first with
    | false => simp [firstFailure]
    | true =>
      rw [List.cons_append, firstFailure_cons_true, firstFailure_cons_true, ih, List.length_cons]
      cases ok <;> by_cases hnone : firstFailure oks = 0 <;> simp [hnone]

/-- The first failure is the number of one of the accesses. -/
theorem firstFailure_le_length (oks : List Bool) : firstFailure oks ≤ oks.length := by
  induction oks with
  | nil => exact Nat.le_refl 0
  | cons first oks ih =>
    cases first with
    | false => simp [firstFailure]
    | true =>
      rw [firstFailure_cons_true, List.length_cons]
      split <;> omega

/-- With no failed access there is no first failure. -/
theorem firstFailure_of_all {oks : List Bool} (h : ∀ ok ∈ oks, ok = true) : firstFailure oks = 0 := by
  induction oks with
  | nil => rfl
  | cons first oks ih =>
    obtain ⟨hfirst, hrest⟩ := List.forall_mem_cons.mp h
    rw [hfirst, firstFailure_cons_true, if_pos (ih hrest)]

/-- `FAIL` after the answers `done` to a command's accesses (10_state.md R36). -/
def failOf (done : List Answer) : BitVec 3 := BitVec.ofNat 3 (firstFailure (done.map Answer.ok))

/-- `FAIL` with one more answer: a failure is noted only if none came before it. -/
theorem failOf_concat {done : List Answer} (ans : Answer) (h : done.length < 5) :
    failOf (done ++ [ans]) =
      if ans.ok = false ∧ failOf done = 0 then BitVec.ofNat 3 (done.length + 1) else failOf done := by
  have hle := firstFailure_le_length (done.map Answer.ok)
  rw [List.length_map] at hle
  have hzero : failOf done = 0 ↔ firstFailure (done.map Answer.ok) = 0 := by
    rw [failOf, ← BitVec.toNat_inj, BitVec.toNat_ofNat, Nat.mod_eq_of_lt (by omega)]
    rfl
  simp only [hzero]
  rw [failOf, List.map_append, List.map_singleton, firstFailure_concat, List.length_map,
    apply_ite (BitVec.ofNat 3)]
  rfl

/-- `FAIL` is 0 while no access fails. -/
theorem failOf_of_all {done : List Answer} (h : ∀ a ∈ done, a.ok = true) : failOf done = 0 := by
  rw [failOf, firstFailure_of_all (List.forall_mem_map.mpr h)]
  rfl

/-! ## The run of an RSTQ that does not abort -/

/-- RSTQ accepted in `s`, after the accesses `done` of the control value `v`, the first among them, whatever
they returned; the answers `rest` and `n` delays are to come. -/
def rstqAfter (s : State) (v : Byte) (done rest : List Answer) (n : Nat) : State :=
  { rstqState s v v v done rest n with
    OKACC := done.all Answer.ok, FAIL := failOf done }

/-- The state before `rstqAfter`: the last access of `done ++ [ans]` is answered, its delay to come. -/
def rstqInGap (s : State) (v : Byte) (done : List Answer) (access : List Byte × Nat) (ans : Answer)
    (rest : List Answer) (n : Nat) : State :=
  { rstqAfter s v (done ++ [ans]) rest n with
    STEP := 2 * done.length + 1
    trace := s.trace ++ rstqEvents s.config v done ++ [accessEvent s.config access ans] }

/-- RSTQ accepted in `s` and completed with the answers `as`, the status `st` left (42_device_control.md R137,
R138). -/
def rstqResult (s : State) (v : Byte) (as rest : List Answer) (n : Nat) (st : Byte) : State :=
  { rstqAfter s v as rest n with STEP := 0, SAVED := v, STATUS := st, LASTOP := 0x5 }

/-- RSTQ does not abort after the answers `done`: the policy is FIRE_AND_FORGET or none of them is a failure
(40_engine.md R108). -/
def GoesOnAfter (s : State) (done : List Answer) : Prop :=
  s.config.seqPolicy = .fireAndForget ∨ ∀ a ∈ done, a.ok = true

/-- The status `st` of an RSTQ accepted in `s` that got the answers `as` (42_device_control.md R137, R138). -/
def ReportsByPolicy (s : State) (as : List Answer) (st : Byte) : Prop :=
  (s.config.seqPolicy = .fireAndForget → StatusIs st s.STATUS true false false 0 false) ∧
  (s.config.seqPolicy = .abortAndReport →
    StatusIs st s.STATUS (as.all Answer.ok) false false (failOf as) false)

section
variable {s : State} {v : Byte} {done rest : List Answer} {n : Nat} {ans : Answer}

/-- The read of the control byte, RSTQ's first access. -/
theorem step_rstqRead (hresets : s.resets = []) (hanswers : s.answers = ans :: rest) :
    step (s.accept Instr.rstq.fields) =
      .next (rstqInGap s ans.byte [] ([0x01], 1) ans rest s.delays) := by
  have hrun : (s.accept Instr.rstq.fields).Running .rstq := ⟨State.accept_busy s Instr.rstq.fields, rfl⟩
  rw [step_eq_exec_of_running (s := s.accept Instr.rstq.fields) hresets hrun,
    readMicroOperation .rstq _ 1 aCtrl .s8 ans rest ⟨hrun, rfl⟩ hanswers]
  cases hok : ans.ok <;>
    simp [rstqInGap, rstqAfter, rstqState, rstqEvents, accessEvent, Answer.byte, hok, failOf, firstFailure,
      State.accept, aCtrl]

/-- A later access of RSTQ is a write, made whatever the accesses before it returned. -/
theorem step_rstqWrite {access : List Byte × Nat} (hresets : s.resets = []) (hdone : 0 < done.length)
    (haccess : (rstqAccesses v)[done.length]? = some access) :
    step (rstqAfter s v done (ans :: rest) n) = .next (rstqInGap s v done access ans rest n) := by
  obtain ⟨k, hk⟩ := Nat.exists_eq_succ_of_ne_zero hdone.ne'
  have hlt : done.length < 5 := (List.getElem?_eq_some_iff.mp haccess).1
  obtain ⟨a, e, hm, hsends⟩ := rstq_writes s.config k (by omega)
  have hokacc : (done ++ [ans]).all Answer.ok = (done.all Answer.ok && ans.ok) := by simp
  have hfail := failOf_concat ans hlt
  rw [hk] at hfail
  have hrun : (rstqAfter s v done (ans :: rest) n).Running .rstq :=
    ⟨State.accept_busy s Instr.rstq.fields, rfl⟩
  obtain rfl := Option.some.inj ((hsends (rstqAfter s v done (ans :: rest) n)).symm.trans (hk ▸ haccess))
  have hatOp : (prog s.config .rstq)[2 * done.length]? = some (.wr (BitVec.ofNat 3 (k + 2)) a e) := hk ▸ hm
  rw [step_eq_exec_of_running (s := rstqAfter s v done (ans :: rest) n) hresets hrun,
    exec_of_write ⟨hrun, hatOp⟩ rfl]
  unfold rstqInGap rstqAfter
  rw [hfail, hokacc]
  rfl

/-- After each of its accesses RSTQ is at the gap. -/
theorem rstqInGap_atGap (access : List Byte × Nat) (hlength : done.length < 5) :
    (rstqInGap s v done access ans rest n).AtOp .rstq (.dly s.config.gapUs) :=
  rstqPending_atGap (s := s) (v := v) (b := v) (done := done) (rest := rest) (n := n) (ans := ans) access
    hlength

/-- The gap after an access but the last, of an RSTQ that does not abort. -/
theorem step_rstqInGap {access : List Byte × Nat} (hresets : s.resets = []) (hlength : done.length < 4)
    (haccess : (rstqAccesses v)[done.length]? = some access) (hgoesOn : GoesOnAfter s (done ++ [ans])) :
    step (rstqInGap s v done access ans rest (n + 1)) = .next (rstqAfter s v (done ++ [ans]) rest n) := by
  have atGap := rstqInGap_atGap (s := s) (v := v) (ans := ans) (rest := rest) (n := n + 1) access
    (Nat.lt_succ_of_lt hlength)
  have hmore : 2 * done.length + 1 + 1 < 10 := by omega
  have hokacc : s.config.seqPolicy = .abortAndReport → (done ++ [ans]).all Answer.ok = true := by
    intro hpolicy
    exact List.all_eq_true.mpr (hgoesOn.resolve_left (by rw [hpolicy]; decide))
  rw [step_eq_exec_of_running (s := rstqInGap s v done access ans rest (n + 1)) hresets atGap.1,
    Memory.delayMicroOperation .rstq _ s.config.gapUs n atGap rfl hmore fun hpolicy _ => hokacc hpolicy]
  simp [rstqInGap, rstqAfter, rstqState, rstqEvents_concat _ ans haccess, Nat.mul_add]

/-- The gap after RSTQ's last access commits its results, under either policy. -/
theorem step_rstqLastGap {access : List Byte × Nat} (hresets : s.resets = []) (hlength : done.length = 4)
    (haccess : (rstqAccesses v)[done.length]? = some access) :
    ∃ st, step (rstqInGap s v done access ans rest (n + 1)) =
        .next (rstqResult s v (done ++ [ans]) rest n st) ∧
      ReportsByPolicy s (done ++ [ans]) st := by
  have atGap := rstqInGap_atGap (s := s) (v := v) (ans := ans) (rest := rest) (n := n + 1) access
    (Nat.lt_succ_of_le hlength.le)
  have hlast : 2 * done.length + 1 = 9 := by omega
  obtain ⟨st, hcommit, hforget, habort⟩ := rstqCommits _ n atGap.1 rfl (.inl hlast)
  refine ⟨st, ?_, fun h => statusIs_of_writeBusy (b := true) (hforget h),
    fun h => statusIs_of_writeBusy (b := true) (habort h)⟩
  rw [step_eq_exec_of_running (s := rstqInGap s v done access ans rest (n + 1)) hresets atGap.1, hcommit]
  simp [rstqResult, rstqInGap, rstqAfter, rstqState, rstqEvents_concat _ ans haccess]

/-- RSTQ makes the writes of the answers `todo`, none of them its last, while it does not abort. -/
theorem run_of_rstqWrites {todo : List Answer} (k : Nat) (hresets : s.resets = []) (hdone : 0 < done.length)
    (hlength : done.length + todo.length ≤ 4) (hgoesOn : GoesOnAfter s (done ++ todo)) :
    run (k + 2 * todo.length) (rstqAfter s v done (todo ++ rest) (n + todo.length)) =
      run k (rstqAfter s v (done ++ todo) rest n) := by
  induction todo generalizing done with
  | nil => simp
  | cons ans todo ih =>
    rw [List.length_cons] at hlength
    rw [List.append_cons] at hgoesOn ⊢
    obtain ⟨access, haccess⟩ := exists_rstqAccess v (k := done.length) (by omega)
    have hfirst : GoesOnAfter s (done ++ [ans]) :=
      hgoesOn.imp_right fun hok a ha => hok a (List.mem_append_left todo ha)
    rw [← ih (by simp) (by simp; omega) hgoesOn]
    exact (run_succ _ (step_rstqWrite hresets hdone haccess)).trans
      (run_succ _ (step_rstqInGap hresets (by omega) haccess hfirst))

end

/-- An accepted RSTQ that does not abort before its last access runs to its result (42_device_control.md R136
to R138). -/
theorem run_of_acceptedRstq {s : State} {first last : Answer} {todo rest : List Answer} {n : Nat}
    (hresets : s.resets = []) (hlength : todo.length = 3)
    (hanswers : s.answers = first :: (todo ++ last :: rest)) (hdelays : s.delays = n + 5)
    (hgoesOn : GoesOnAfter s (first :: todo)) :
    ∃ st, run 10 (s.accept Instr.rstq.fields) =
        .next (rstqResult s first.byte (first :: todo ++ [last]) rest n st) ∧
      ReportsByPolicy s (first :: todo ++ [last]) st := by
  have hfour : (first :: todo).length = 4 := congrArg (· + 1) hlength
  have hfirst : GoesOnAfter s [first] :=
    hgoesOn.imp_right fun hok a ha => List.mem_singleton.mp ha ▸ hok first List.mem_cons_self
  obtain ⟨access, haccess⟩ := exists_rstqAccess first.byte (k := (first :: todo).length) (by omega)
  obtain ⟨st, hcommit, hreport⟩ := step_rstqLastGap (ans := last) (rest := rest) (n := n) hresets hfour haccess
  have hwrites := run_of_rstqWrites (v := first.byte) (done := [first]) (todo := todo) (rest := last :: rest)
    (n := n + 1) 2 hresets (Nat.succ_pos 0) (by rw [hlength]; exact Nat.le_refl 4) hgoesOn
  rw [hlength] at hwrites
  refine ⟨st, ?_, hreport⟩
  calc run 10 (s.accept Instr.rstq.fields)
    _ = run 9 (rstqInGap s first.byte [] ([0x01], 1) first (todo ++ last :: rest) (n + 5)) :=
      run_succ 9 (hdelays ▸ step_rstqRead hresets hanswers)
    _ = run 8 (rstqAfter s first.byte [first] (todo ++ last :: rest) (n + 4)) :=
      run_succ 8 (step_rstqInGap hresets (Nat.succ_pos 3) rfl hfirst)
    _ = run 2 (rstqAfter s first.byte (first :: todo) (last :: rest) (n + 1)) := hwrites
    _ = run 1 (rstqInGap s first.byte (first :: todo) access last rest (n + 1)) :=
      run_succ 1 (step_rstqWrite hresets (Nat.succ_pos _) haccess)
    _ = .next (rstqResult s first.byte (first :: todo ++ [last]) rest n st) := run_succ 0 hcommit

/-- RSTQ from its word to its result, when it does not abort before its last access. -/
theorem run_of_rstq {s : State} {ws : List Word} {first last : Answer} {todo rest : List Answer} {n : Nat}
    (h : s.Issues (encode .rstq) ws) (hlength : todo.length = 3)
    (hanswers : s.answers = first :: (todo ++ last :: rest)) (hdelays : s.delays = n + 5)
    (hgoesOn : GoesOnAfter s (first :: todo)) :
    ∃ st, run 11 s = .next
        (rstqResult { s with words := ws } first.byte (first :: todo ++ [last]) rest n st) ∧
      ReportsByPolicy s (first :: todo ++ [last]) st := by
  obtain ⟨st, hrun, hreport⟩ :=
    run_of_acceptedRstq (s := { s with words := ws }) h.resets hlength hanswers hdelays hgoesOn
  exact ⟨st, (run_succ 10 (CommandRun.step_of_issues h)).trans hrun, hreport⟩

/-- Settles O38: under FIRE_AND_FORGET RSTQ never aborts, whatever its accesses return. -/
theorem rstqFireAndForget : Obligations.RstqFireAndForget := by
  rintro s ws a1 a2 a3 a4 a5 rest n v h hpolicy hanswers hdelays rfl
  obtain ⟨st, hrun, hstatus, -⟩ :=
    run_of_rstq (todo := [a2, a3, a4]) h rfl hanswers hdelays (.inl hpolicy)
  refine ⟨st, hrun.trans ?_, hstatus hpolicy⟩
  simp [rstqResult, rstqAfter, rstqState, State.accept, rstqEvents, rstqAccesses, readEvent, writeEvent, failOf,
    Instr.fields, Bool.and_assoc]

/-- Settles O40: RSTQ does not abort while no access fails, and then reports that none did. -/
theorem rstqReportsSuccess : Obligations.RstqReportsSuccess := by
  intro s ws oks rest n v h hpolicy hlength hoks hanswers hdelays hv
  match oks, hlength with
  | [a1, a2, a3, a4, a5], _ =>
    obtain rfl := Option.some.inj hv
    obtain ⟨st, hrun, -, hstatus⟩ := run_of_rstq (todo := [a2, a3, a4]) h rfl hanswers hdelays
      (.inr fun a ha => hoks a (List.mem_append_left [a5] ha))
    have hreport : StatusIs st s.STATUS ([a1, a2, a3, a4, a5].all Answer.ok) false false
      (failOf [a1, a2, a3, a4, a5]) false := hstatus hpolicy
    rw [List.all_eq_true.mpr hoks, failOf_of_all hoks] at hreport
    exact ⟨_, hrun, rfl, rfl, rfl, rfl, rfl, rfl, rfl, rfl, hreport⟩

/-! ## The chip that RSTQ drives -/

/-- A register of the chip after a write that landed. -/
theorem chipRead_chipWrite (m : ChipMem) {a : Byte} (v b : Byte) (h : a.toNat < 16) :
    chipRead (chipWrite m a v) b = if b = a then v else chipRead m b := by
  by_cases hb : b = a
  · subst hb
    simp [chipRead, chipWrite, h, Vector.toList_set]
  · have hne : a.toNat ≠ b.toNat := fun heq => hb (BitVec.eq_of_toNat_eq heq.symm)
    simp [chipRead, chipWrite, h, hb, hne, Vector.toList_set]

/-- The chip is shut down by a control byte with the shutdown bit set (10_state.md R46). -/
theorem controlShutDown_or : ∀ v : Byte, controlShutDown (v ||| 1#8) = true := by decide

/-- The chip after an access and its gap. -/
theorem chipAfter_access (m : ChipMem) (e : BusEvent) (us : Nat) (later : List BusEvent) :
    chipAfter m (e :: .delay us :: later) = chipAfter (chipAfterEvent m e) later := rfl

/-- The chip before any event. -/
theorem chipAfter_nil (m : ChipMem) : chipAfter m [] = m := rfl

/-- A read changes no register. -/
theorem chipAfterEvent_readEvent (m : ChipMem) (c : Config) (a : Byte) (ans : Answer) :
    chipAfterEvent m (readEvent c a ans) = m := rfl

/-- A write that succeeds lands. -/
theorem chipAfterEvent_writeEvent (m : ChipMem) (c : Config) (a v : Byte) {ans : Answer} (h : ans.ok = true) :
    chipAfterEvent m (writeEvent c a v ans) = chipWrite m a v := by
  rw [writeEvent, h]
  rfl

/-- The events of a whole RSTQ (42_device_control.md R136). -/
theorem rstqEvents_five (c : Config) (v : Byte) (a1 a2 a3 a4 a5 : Answer) :
    rstqEvents c v [a1, a2, a3, a4, a5] =
      [readEvent c 0x01 a1, .delay c.gapUs,
       writeEvent c 0x01 (v ||| 0x01) a2, .delay c.gapUs,
       writeEvent c 0x02 0x00 a3, .delay c.gapUs,
       writeEvent c 0x03 0x00 a4, .delay c.gapUs,
       writeEvent c 0x01 v a5, .delay c.gapUs] := rfl

/-- Settles O42: while no access fails RSTQ makes all five under either policy, and each write lands. -/
theorem rstqChipTransitions : Obligations.RstqChipTransitions := by
  intro s t ws a1 a2 a3 a4 a5 rest m events h hanswers hdelays h1 h2 h3 h4 h5 hrx hrunT htrace
  obtain ⟨n, hn⟩ := Nat.exists_eq_add_of_le' hdelays
  obtain ⟨st, hrun, -, -⟩ := run_of_rstq (todo := [a2, a3, a4]) h rfl hanswers hn
    (.inr (by simp [h1, h2, h3, h4]))
  obtain rfl := Host.Outcome.next.inj (hrun.symm.trans hrunT)
  have hevents : s.trace ++ rstqEvents s.config a1.byte [a1, a2, a3, a4, a5] = s.trace ++ events := htrace
  have hv : a1.byte = chipRead m 0x01 := (if_pos h1).trans hrx
  rw [rstqEvents_five, hv] at hevents
  obtain rfl := List.append_cancel_left hevents
  simp only [List.take_succ_cons, List.take_zero, chipAfter_access, chipAfterEvent_readEvent,
    chipAfterEvent_writeEvent _ _ _ _ h2, chipAfterEvent_writeEvent _ _ _ _ h3,
    chipAfterEvent_writeEvent _ _ _ _ h4, chipAfterEvent_writeEvent _ _ _ _ h5, chipAfter_nil]
  refine ⟨?shutDown, ?zeroMsb, ?zeroLsb, fun a => ?restored⟩
  case shutDown => simp [chipRead_chipWrite, controlShutDown_or]
  case zeroMsb => simp [chipRead_chipWrite]
  case zeroLsb => simp [chipRead_chipWrite, controlShutDown_or]
  case restored =>
    by_cases hctrl : a = 1#8
    · simp [chipRead_chipWrite, hctrl]
    · by_cases hlsb : a = 3#8
      · simp [chipRead_chipWrite, hlsb]
      · simp [chipRead_chipWrite, hctrl, hlsb]

end Sys2Proof.Proofs.DeviceControl
end

section
/-! The decode and scaling pipeline (43_decode_pipeline.md R160 to R175): the scaling laws, the commit of a decode
command, and each of the five from its word to its result. -/

namespace Sys2Proof.Proofs.DecodePipeline
open Sys2Proof Sys2Proof.Machine Sys2Proof.Proofs.Engine Sys2Proof.Proofs.Completions

/-! ## The scaling stage -/

/-- The scaled voltage as R170 writes it, in its low 16 bits. -/
theorem scaleV_eq (c : Config) (code : Word) :
    scaleV c code = BitVec.ofNat 16 (code.toNat * c.vfsMv.toNat / c.codeFs.toNat) := by
  rw [scaleV, ← Temperature.scale32_toNat, BitVec.ofNat_toNat]

/-- A code up to the full-scale code scales to at most the full scale (43_decode_pipeline.md R173). -/
theorem scaled_le_fullScale {code codeFs : Nat} (fs : Nat) (hcode : code ≤ codeFs) :
    code * fs / codeFs ≤ fs :=
  Nat.div_le_of_le_mul (Nat.mul_le_mul_right fs hcode)

/-- A voltage in range keeps its value in 16 bits: it is at most the full scale, a 16-bit value
(43_decode_pipeline.md R173). -/
theorem scaleV_toNat {c : Config} {code : Word} (hcode : code.toNat ≤ c.codeFs.toNat) :
    (scaleV c code).toNat = code.toNat * c.vfsMv.toNat / c.codeFs.toNat := by
  rw [scaleV_eq, BitVec.toNat_ofNat]
  exact Nat.mod_eq_of_lt ((scaled_le_fullScale _ hcode).trans_lt c.vfsMv.isLt)

/-- Settles O52: in range `scaleV` is the quotient, and a quotient times its divisor misses the dividend by less
than the divisor. -/
theorem voltageScalingIsExact : Obligations.VoltageScalingIsExact := by
  intro c code hpositive hcode
  rw [scaleV_toNat hcode]
  exact ⟨rfl, scaled_le_fullScale _ hcode, Nat.div_mul_le_self _ _,
    (Nat.lt_mul_div_succ _ hpositive).trans_eq (Nat.mul_comm _ _)⟩

/-- Settles O53: `scaleT` is the signed reading of its 16 bits, and so lies in the signed 16-bit range. -/
theorem temperatureScalingIsExact : Obligations.TemperatureScalingIsExact := by
  intro c code hwf hcode
  have hsigned := Temperature.s16Bits_scaleT_toInt hwf hcode
  refine ⟨Temperature.scaleT_eq c code, ?bottom, ?top, hsigned⟩
  case bottom => exact hsigned ▸ BitVec.le_toInt (s16Bits (scaleT c code))
  case top => exact hsigned ▸ Int.le_of_lt_add_one BitVec.toInt_lt

/-- Settles O54: the product and the quotient of R170 and R171 are monotone in the code, and the offset is
fixed. -/
theorem scalingIsMonotone : Obligations.ScalingIsMonotone := by
  intro c code code' _ hcode' hle
  have hquotient (fs : Nat) : code.toNat * fs / c.codeFs.toNat ≤ code'.toNat * fs / c.codeFs.toNat :=
    Nat.div_le_div_right (Nat.mul_le_mul_right fs hle)
  constructor
  · rw [scaleV_toNat (hle.trans hcode'), scaleV_toNat hcode']
    exact hquotient _
  · rw [Temperature.scaleT_eq, Temperature.scaleT_eq]
    exact Int.sub_le_sub_right (Int.ofNat_le.mpr (hquotient _)) _

/-! ## The commits -/

/-- The assembled code as the number R163 gives. -/
theorem assembleCode_eq (m l : Byte) : assembleCode m l = BitVec.ofNat 16 (256 * m.toNat + l.toNat) := by
  rw [← Temperature.assembleCode_toNat, BitVec.ofNat_toNat, BitVec.setWidth_eq]

/-- The assembled code's number: it fits 16 bits (43_decode_pipeline.md R173). -/
theorem code_toNat (s : State) : s.code.toNat = 256 * s.M8.toNat + s.B8.toNat :=
  Temperature.assembleCode_toNat s.M8 s.B8

/-- The last gap of a decode command commits its output for the code, the code and the outcome latches
(43_decode_pipeline.md R164). -/
theorem decoder_commits {i : Instr} {pair : Byte × Byte} {s : State} {n : Nat}
    (hpair : decoderPair i = some pair) (hrun : s.Running i) (hstep : s.STEP = 3)
    (hdelays : s.delays = n + 1) :
    ∃ st, exec i s = .next
      { s with
        OUT := decoderOut s.config i s.code
        RAW := BitVec.ofNat 16 (256 * s.M8.toNat + s.B8.toNat)
        STATUS := st, LASTOP := i.fields.op, STEP := 0, delays := n
        trace := s.trace ++ [.delay s.config.gapUs] } ∧
      StatusIs st s.STATUS s.OKACC false false s.FAIL false := by
  have hprog := Temperature.prog_of_decoderPair hpair s.config
  refine ⟨_, ?_, statusIs_writeReport_writeBusy s.STATUS s.OKACC false false s.FAIL⟩
  rw [exec_of_completingDelay ⟨hrun, by rw [hprog, hstep]; rfl⟩ hdelays (.inl (by rw [hprog, hstep]; rfl)),
    Temperature.commit_of_decoderPair hpair, ← assembleCode_eq]
  simp [State.putCode, State.code, State.reportAccesses, State.finish, hrun.2]

/-- Settles O28: the raw decoders put out the code itself. -/
theorem rawDecodersCommit : Obligations.RawDecodersCommit := by
  intro i s n hi hrun hstep hdelays
  have hraw : ∃ pair, decoderPair i = some pair ∧ decoderOut s.config i s.code = s.code := by
    rcases hi with rfl | rfl | rfl <;> exact ⟨_, rfl, rfl⟩
  obtain ⟨pair, hpair, hout⟩ := hraw
  rw [← assembleCode_eq]
  have hcommit := decoder_commits hpair hrun hstep hdelays
  rwa [hout, ← assembleCode_eq] at hcommit

/-- Settles O29: DECVS puts out the scaled voltage of the code. -/
theorem decvsCommits : Obligations.DecvsCommits := by
  intro s n hrun hstep hdelays hfs
  have hfull : s.config.codeFs.toNat = 65535 := congrArg BitVec.toNat hfs
  have hout : decoderOut s.config .decvs s.code = scaleV s.config s.code := rfl
  have hcommit := decoder_commits rfl hrun hstep hdelays
  rwa [hout, scaleV_eq, code_toNat, hfull] at hcommit

/-- Settles O30: DECTS puts out the 16 bits of the scaled temperature of the code. -/
theorem dectsCommits : Obligations.DectsCommits := by
  intro s n hrun hstep hdelays hfs
  have hfull : s.config.codeFs.toNat = 65535 := congrArg BitVec.toNat hfs
  have hout : decoderOut s.config .dects s.code = s16Bits (scaleT s.config s.code) := rfl
  have hcommit := decoder_commits rfl hrun hstep hdelays
  rwa [hout, Temperature.scaleT_eq, code_toNat, hfull] at hcommit

/-! ## A decode command from its word to its result -/

/-- A running command after an answered read: the byte is latched, a failure noted and the read in the trace
(40_engine.md R105). -/
def afterRead (s : State) (k : BitVec 3) (a : Byte) (l : Latch) (ans : Answer) (rest : List Answer) : State :=
  { s with
    answers := rest, trace := s.trace ++ [readEvent s.config a ans]
    B8 := ans.byte, M8 := if l = .m8 then ans.byte else s.M8, S8 := if l = .s8 then ans.byte else s.S8
    OKACC := s.OKACC && ans.ok, FAIL := if ans.ok = false ∧ s.FAIL = 0 then k else s.FAIL
    STEP := s.STEP + 1 }

/-- A running command after a completed gap (40_engine.md R107), with `n` delays to come. -/
def afterGap (s : State) (n : Nat) : State :=
  { s with delays := n, trace := s.trace ++ [.delay s.config.gapUs], STEP := s.STEP + 1 }

/-- An answered read leaves `afterRead`. -/
theorem step_of_read {i : Instr} {s : State} {k : BitVec 3} {a : Byte} {l : Latch} {ans : Answer}
    {rest : List Answer} (hresets : s.resets = []) (h : s.AtOp i (.rd k a l))
    (hanswers : s.answers = ans :: rest) : step s = .next (afterRead s k a l ans rest) := by
  rw [step_eq_exec_of_running hresets h.1]
  exact readMicroOperation i s k a l ans rest h hanswers

/-- The gap between the reads of a decode command leaves `afterGap`, whatever the first returned: a decode command
never aborts (40_engine.md R108). -/
theorem step_of_decoderGap {i : Instr} {msb lsb : Byte} {s : State} {n : Nat}
    (hpair : decoderPair i = some (msb, lsb)) (hresets : s.resets = []) (hrun : s.Running i)
    (hstep : s.STEP = 1) (hdelays : s.delays = n + 1) : step s = .next (afterGap s n) := by
  have hprog := Temperature.prog_of_decoderPair hpair s.config
  have hgap : s.AtOp i (.dly s.config.gapUs) := ⟨hrun, by rw [hprog, hstep]; rfl⟩
  have hmore : s.STEP + 1 < (prog s.config i).length := by rw [hprog, hstep]; exact Nat.le_succ 3
  rw [step_eq_exec_of_running hresets hrun]
  refine Memory.delayMicroOperation i s _ n hgap hdelays hmore fun _ hsequence => ?_
  rcases hsequence with rfl | rfl <;> cases hpair

/-- A running decode command after both its reads and the gap between them, with `n` delays to come. -/
def afterReads (s : State) (msb lsb : Byte) (a1 a2 : Answer) (rest : List Answer) (n : Nat) : State :=
  afterRead (afterGap (afterRead s 1 msb .m8 a1 (a2 :: rest)) n) 2 lsb .none a2 rest

/-- A decode command makes both its reads, MSB first, whatever they return (43_decode_pipeline.md R162). -/
theorem run_of_decoderReads {i : Instr} {msb lsb : Byte} {s : State} {a1 a2 : Answer} {rest : List Answer}
    {n : Nat} (k : Nat) (hpair : decoderPair i = some (msb, lsb)) (hresets : s.resets = [])
    (hrun : s.Running i) (hstep : s.STEP = 0) (hanswers : s.answers = a1 :: a2 :: rest)
    (hdelays : s.delays = n + 1) :
    run (k + 3) s = run k (afterReads s msb lsb a1 a2 rest n) := by
  have hprog := Temperature.prog_of_decoderPair hpair s.config
  have hmsb : (prog s.config i)[s.STEP]? = some (.rd 1 msb .m8) := by rw [hprog, hstep]; rfl
  have hlsb : (prog s.config i)[s.STEP + 1 + 1]? = some (.rd 2 lsb .none) := by rw [hprog, hstep]; rfl
  calc run (k + 3) s
    _ = run (k + 2) (afterRead s 1 msb .m8 a1 (a2 :: rest)) :=
      run_succ _ (step_of_read hresets ⟨hrun, hmsb⟩ hanswers)
    _ = run (k + 1) (afterGap (afterRead s 1 msb .m8 a1 (a2 :: rest)) n) :=
      run_succ _ (step_of_decoderGap hpair hresets hrun (congrArg (· + 1) hstep) hdelays)
    _ = run k (afterReads s msb lsb a1 a2 rest n) :=
      run_succ _ (step_of_read hresets ⟨hrun, hlsb⟩ rfl)

/-- `FAIL` after two accesses, noted one by one, is the number of the first that failed (10_state.md R36). -/
theorem fail_of_two : ∀ ok1 ok2 : Bool,
    (if ok2 = false ∧ (if ok1 = false then 1#3 else 0#3) = 0#3 then 2#3
      else if ok1 = false then 1#3 else 0#3) = BitVec.ofNat 3 (firstFailure [ok1, ok2]) := by
  decide

/-- A decode command from its acceptance to its result: both reads, then the last gap commits the two bytes
delivered (43_decode_pipeline.md R160 to R164, R175). -/
theorem run_of_acceptedDecoder {i : Instr} {msb lsb : Byte} {s : State} {a1 a2 : Answer}
    {rest : List Answer} {n : Nat} (hpair : decoderPair i = some (msb, lsb)) (hresets : s.resets = [])
    (hrun : s.Running i) (hstep : s.STEP = 0) (hokacc : s.OKACC = true) (hfail : s.FAIL = 0)
    (hanswers : s.answers = a1 :: a2 :: rest) (hdelays : s.delays = n + 2) :
    ∃ st, run 4 s = .next
      { s with
        answers := rest, delays := n
        trace := s.trace ++
          [readEvent s.config msb a1, .delay s.config.gapUs,
           readEvent s.config lsb a2, .delay s.config.gapUs]
        STEP := 0, M8 := a1.byte, B8 := a2.byte, OKACC := a1.ok && a2.ok
        FAIL := BitVec.ofNat 3 (firstFailure [a1.ok, a2.ok])
        OUT := decoderOut s.config i (BitVec.ofNat 16 (256 * a1.byte.toNat + a2.byte.toNat))
        RAW := BitVec.ofNat 16 (256 * a1.byte.toNat + a2.byte.toNat)
        STATUS := st, LASTOP := i.fields.op } ∧
      StatusIs st s.STATUS (a1.ok && a2.ok) false false
        (BitVec.ofNat 3 (firstFailure [a1.ok, a2.ok])) false := by
  have hread : (afterReads s msb lsb a1 a2 rest (n + 1)).Running i := hrun
  have hresetsRead : (afterReads s msb lsb a1 a2 rest (n + 1)).resets = [] := hresets
  obtain ⟨st, hcommit, hstatus⟩ := decoder_commits hpair hread (congrArg (· + 3) hstep) rfl
  have lastGap := (step_eq_exec_of_running hresetsRead hread).trans hcommit
  rw [run_of_decoderReads 1 hpair hresets hrun hstep hanswers hdelays, run_succ 0 lastGap, run_zero,
    ← fail_of_two]
  refine ⟨st, ?_, ?_⟩
  · simp [afterReads, afterRead, afterGap, State.code, assembleCode_eq, hokacc, hfail]
  · simpa [afterReads, afterRead, afterGap, hokacc, hfail] using hstatus

/-- Settles O35: acceptance starts the command with fresh outcome latches, and writes of `STATUS` only `BUSY`. -/
theorem decodersFromIssueToResult : Obligations.DecodersFromIssueToResult := by
  intro i msb lsb s ws a1 a2 rest n hpair h hanswers hdelays
  obtain ⟨st, hrun, hstatus⟩ :=
    run_of_acceptedDecoder (s := ({ s with words := ws } : State).accept i.fields) hpair h.resets
      ⟨State.accept_busy _ _, rfl⟩ rfl rfl rfl hanswers hdelays
  exact ⟨st, (run_succ 4 (CommandRun.step_of_issues h)).trans hrun, statusIs_of_writeBusy (b := true) hstatus⟩

/-- Status bytes with the same fields, written over bytes with the same reserved bit, are equal (10_state.md
R24). -/
theorem statusIs_unique {st st' old old' : Byte} {ok present illegal busy : Bool} {err : BitVec 3}
    (h : StatusIs st old ok present illegal err busy) (h' : StatusIs st' old' ok present illegal err busy)
    (hreserved : statusReserved old = statusReserved old') : st = st' :=
  status_ext (h.ok.trans h'.ok.symm) (h.present.trans h'.present.symm) (h.illegal.trans h'.illegal.symm)
    (h.reserved.trans (hreserved.trans h'.reserved.symm)) (h.errstep.trans h'.errstep.symm)
    (h.busy.trans h'.busy.symm)

/-- Settles O36: both runs end as O35 says, with the same function of the parameters and the two answers in each
result register. -/
theorem decodersIgnoreHistory : Obligations.DecodersIgnoreHistory := by
  intro i ⟨msb, lsb⟩ s s' ws ws' a1 a2 rest rest' hpair hconfig hreserved hreserved' h h' ha ha' hd hd'
  obtain ⟨n, hn⟩ := Nat.exists_eq_add_of_le' hd
  obtain ⟨n', hn'⟩ := Nat.exists_eq_add_of_le' hd'
  obtain ⟨st, hrun, hst⟩ := decodersFromIssueToResult i msb lsb s ws a1 a2 rest n hpair h ha hn
  obtain ⟨st', hrun', hst'⟩ := decodersFromIssueToResult i msb lsb s' ws' a1 a2 rest' n' hpair h' ha' hn'
  have hout (code : Word) : decoderOut s.config i code = decoderOut s'.config i code := by rw [hconfig]
  exact ⟨_, _, hrun, hrun', hout _, rfl, statusIs_unique hst hst' (hreserved.trans hreserved'.symm), rfl⟩

end Sys2Proof.Proofs.DecodePipeline
end

section
/-! Block reset and the configuration (70_reset_and_hazards.md R230 to R232). -/

namespace Sys2Proof.Proofs.Reset
open Sys2Proof Sys2Proof.Machine

/-! ## A due reset -/

/-- A due reset is the whole step, whatever the block is doing (70_reset_and_hazards.md R230, R232). -/
theorem step_of_resetDue {s : State} {rest : List Nat} (h : s.resets = 0 :: rest) :
    step s = .next ({ s with resets := rest } : State).blockReset := by
  unfold step
  rw [h]

/-- Settles O7: the step is the block reset, whose registers are those of `State.reset`. -/
theorem blockResetInOneStep : Obligations.BlockResetInOneStep :=
  fun _ _ hdue => step_of_resetDue hdue

/-! ## The configuration -/

/-- A micro-operation that goes on leaves the configuration (40_engine.md R105 to R107). -/
theorem goesOn_config {i : Instr} {m : MicroOp} {s ran t : State} (h : BlockState.GoesOn i m s ran t) :
    t.config = s.config := by
  obtain ⟨hu, -⟩ := runMicroOp_cases h.ranTo
  rw [h.result]
  exact hu.config

/-- A completion leaves the configuration: no commit writes it (40_engine.md R109). -/
theorem completion_config {i : Instr} {s ran t : State} (h : BlockState.Completion i s ran t) :
    t.config = s.config := by
  obtain ⟨-, -, -, -, -, -, -, -, hcommit, -⟩ := commit_keeps i ran.advance
  rw [h.result]
  exact hcommit.trans h.untouched.config

/-- A block's step leaves the configuration, whichever of the five things it does. -/
theorem stepBlock_config {s t : State} (h : stepBlock s = .next t) : t.config = s.config := by
  obtain rfl | ⟨ws, i, rfl⟩ | ⟨ws, op, -, rfl⟩ | ⟨i, m, ran, hgo⟩ | ⟨i, ran, hdone⟩ :=
    BlockState.stepBlock_micro_cases h
  · rfl
  · exact State.accept_config _ _
  · exact State.refuseIllegal_config _ _
  · exact goesOn_config hgo
  · exact completion_config hdone

/-- Settles O9: a block reset keeps the configuration, and any other step is the block's own. -/
theorem configurationNeverChanges : Obligations.ConfigurationNeverChanges := by
  intro s t hstep
  obtain ⟨rest, -, rfl⟩ | ⟨rs, -, hblock⟩ := step_cases hstep
  · exact State.blockReset_config _
  · exact stepBlock_config (s := { s with resets := rs }) hblock

end Sys2Proof.Proofs.Reset
end
